-- ==== Sys2Proof/Word.lean ====
section
/-! DEFINITION. The plain words of the part: bytes, positions, the uptime, axis numbers and masks (00_scope.md
section 5, 12_message_formats.md R168). -/

namespace Sys2Proof

/-- One byte of a frame. -/
abbrev Byte := BitVec 8

/-- A position: three bytes, two's complement, −8,388,608 to +8,388,607 (00 section 5). -/
abbrev Position := BitVec 24

/-- The 32-bit uptime and the deadlines compared with it (R142). -/
abbrev Uptime := BitVec 32

/-- Axis numbers 0 to 3 (00 section 5). -/
abbrev AxisId := Fin 4

/-- A 4-bit axis mask; bit n stands for axis n (00 section 5). -/
abbrev AxisMask := BitVec 4

/-- A 24-bit set of trigger slots; bit n stands for slot n (00 section 5). -/
abbrev SlotMask := BitVec 24

/-- Ramp profile numbers 0 to 7 (R20). -/
abbrev ProfileId := Fin 8

end Sys2Proof
end

