-- ==== Sys2Proof/Machine/OrderCodes.lean ====
section
/-! DEFINITION. The order codes of R169, and the byte constants of the line (R154, R155). -/

namespace Sys2Proof.Machine

/-- The order codes (R169). -/
inductive OrderCode where
  | identify | getStatus | setLink | getLinkStats | restart | getTime
  | setAxis | getAxis | enable | disable | setPosition | getAxisState | resume | stop
  | queueSegment | flushQueue | peekQueue
  | defineProfile | readProfile | dropProfile
  | setTrigger | armTriggers | disarmTriggers | clearTriggers | readTrigger
  | setOutputs | pulseOutput | setOutputConfig | setPwm | getPwm | setInputConfig | getIo
  | discardReports
  deriving DecidableEq, Repr

/-- The code byte of an order (R169). -/
def orderByte : OrderCode → Byte
  | .identify => 0x01 | .getStatus => 0x02 | .setLink => 0x03 | .getLinkStats => 0x04 | .restart => 0x05
  | .getTime => 0x06
  | .setAxis => 0x10 | .getAxis => 0x11 | .enable => 0x12 | .disable => 0x13 | .setPosition => 0x14
  | .getAxisState => 0x15 | .resume => 0x16 | .stop => 0x17
  | .queueSegment => 0x20 | .flushQueue => 0x21 | .peekQueue => 0x22
  | .defineProfile => 0x30 | .readProfile => 0x31 | .dropProfile => 0x32
  | .setTrigger => 0x40 | .armTriggers => 0x41 | .disarmTriggers => 0x42 | .clearTriggers => 0x43
  | .readTrigger => 0x44
  | .setOutputs => 0x50 | .pulseOutput => 0x51 | .setOutputConfig => 0x52 | .setPwm => 0x53 | .getPwm => 0x54
  | .setInputConfig => 0x55 | .getIo => 0x56
  | .discardReports => 0x60

/-- Every order code of the part (R169). -/
def orderCodes : List OrderCode :=
  [.identify, .getStatus, .setLink, .getLinkStats, .restart, .getTime, .setAxis, .getAxis, .enable, .disable,
   .setPosition, .getAxisState, .resume, .stop, .queueSegment, .flushQueue, .peekQueue, .defineProfile, .readProfile,
   .dropProfile, .setTrigger, .armTriggers, .disarmTriggers, .clearTriggers, .readTrigger, .setOutputs, .pulseOutput,
   .setOutputConfig, .setPwm, .getPwm, .setInputConfig, .getIo, .discardReports]

/-- The order a code byte names (R169), `none` when it names none (R161 step 1). -/
def orderOfByte (b : Byte) : Option OrderCode := orderCodes.find? fun c => orderByte c == b

/-- The orders a station carries out when they are broadcast (R160). -/
def broadcastOrder : OrderCode → Bool
  | .stop | .resume | .setOutputs => true
  | _ => false

/-- The opening byte of a frame (R154). -/
def openingByte : Byte := 0xB7

/-- The first byte of an escape (R154). -/
def escapeByte : Byte := 0xB8

/-- The largest payload length (R154). -/
def maxPayload : Nat := 60

end Sys2Proof.Machine
end

