-- ==== Sys2Proof/Syntax.lean ====
section
/-! DEFINITION. The commands the part takes: one constructor per row of spec/opcode_table.json. An order carries its
frame's header and the parameter bytes that follow the order code (R167, R169); the order code is the constructor. -/

namespace Sys2Proof

/-- The parts of a master frame beside its payload that the part reads (R167): the station byte and the sequence. The
control bits 7 to 5 are carried too; the part disregards them. -/
structure Header where
  station : Byte
  seq     : BitVec 3
  spare   : BitVec 3
  deriving DecidableEq, Repr

/-- The five inputs of one axis (R134), in the bit order of the axis polarity byte (R169). -/
inductive AxisLine where
  | limp
  | limn
  | slow
  | home
  | alarm
  deriving DecidableEq, Repr

/-- The twenty-five inputs (R134). -/
inductive InputId where
  | axis (a : AxisId) (l : AxisLine)
  | general (i : Fin 4)
  | estop
  deriving DecidableEq, Repr

/-- The pins whose level the outside changes: the inputs and the straps (00 section 2). The RESET pin has commands of
its own. -/
inductive PinId where
  | input (i : InputId)
  | addressStrap (bit : Fin 5)
  | speedStrap (bit : Fin 2)
  deriving DecidableEq, Repr

/-- The commands, in the order of spec/opcode_table.json. -/
inductive Instr where
  | identify (h : Header) (params : List Byte)
  | getStatus (h : Header) (params : List Byte)
  | setLink (h : Header) (params : List Byte)
  | getLinkStats (h : Header) (params : List Byte)
  | restart (h : Header) (params : List Byte)
  | getTime (h : Header) (params : List Byte)
  | setAxis (h : Header) (params : List Byte)
  | getAxis (h : Header) (params : List Byte)
  | enable (h : Header) (params : List Byte)
  | disable (h : Header) (params : List Byte)
  | setPosition (h : Header) (params : List Byte)
  | getAxisState (h : Header) (params : List Byte)
  | resume (h : Header) (params : List Byte)
  | stop (h : Header) (params : List Byte)
  | queueSegment (h : Header) (params : List Byte)
  | flushQueue (h : Header) (params : List Byte)
  | peekQueue (h : Header) (params : List Byte)
  | defineProfile (h : Header) (params : List Byte)
  | readProfile (h : Header) (params : List Byte)
  | dropProfile (h : Header) (params : List Byte)
  | setTrigger (h : Header) (params : List Byte)
  | armTriggers (h : Header) (params : List Byte)
  | disarmTriggers (h : Header) (params : List Byte)
  | clearTriggers (h : Header) (params : List Byte)
  | readTrigger (h : Header) (params : List Byte)
  | setOutputs (h : Header) (params : List Byte)
  | pulseOutput (h : Header) (params : List Byte)
  | setOutputConfig (h : Header) (params : List Byte)
  | setPwm (h : Header) (params : List Byte)
  | getPwm (h : Header) (params : List Byte)
  | setInputConfig (h : Header) (params : List Byte)
  | getIo (h : Header) (params : List Byte)
  | discardReports (h : Header) (params : List Byte)
  /-- An ORDER frame with an empty payload or no known order code (R161). -/
  | unknownOrder (h : Header) (payload : List Byte)
  /-- A POLL frame; its payload is empty or the acknowledgement number (R156, R167). -/
  | poll (h : Header) (ack : Option Byte)
  /-- A valid frame that is ignored (R156, R160). -/
  | ignoredFrame (station control : Byte) (payload : List Byte)
  /-- A complete frame with the check bytes received (R156). -/
  | checkFailure (station control : Byte) (payload : List Byte) (checkA checkB : Byte)
  /-- The second byte of an escape that is none of the two (R155). -/
  | escapeError (b : Byte)
  /-- A length byte above 60 (R155). -/
  | oversizeFrame (len : Byte)
  | openingByteAbandonment
  | gapAbandonment
  | replyStart
  | replyEnd
  | replyAbandoned
  | linkLossEvent
  /-- Power comes up, with the RESET pin active or not (R166). -/
  | powerOn (resetPinActive : Bool)
  | resetPin
  | resetComplete
  | tick
  | dwellEnd (a : AxisId)
  | inputTimeout (a : AxisId)
  | pulseEnd (n : Fin 8)
  | filterAcceptance (i : InputId)
  /-- A pin takes a level, high or low (R135, R153). -/
  | rawChange (p : PinId) (high : Bool)
  | stepIssue (a : AxisId)
  | stepPulseStart (a : AxisId)
  | stepPulseEnd (a : AxisId)
  | tailIntervalExpiry (a : AxisId)
  | stopWalkEnd (a : AxisId)
  | periodBoundary (c : Fin 2)
  | pwmDutyEnd (c : Fin 2)
  | newFrameBegins
  deriving DecidableEq, Repr

end Sys2Proof
end

