-- ==== Sys2Proof/Machine/Framing.lean ====
section
/-! DEFINITION. Frames on the line: check bytes and escaping (R154), the layout of the contents and of the control byte
(R167), and the receive side byte by byte (R155). The commands CHECK_FAILURE, ESCAPE_ERROR and OVERSIZE_FRAME use the
tests of this file; the byte-level receive side turns a stream of bytes into the events that are the part's commands
(notes/assumptions/5.md). -/

namespace Sys2Proof.Machine

/-- A frame without its opening and check bytes (R154). -/
structure Frame where
  station : Byte
  control : Byte
  payload : List Byte
  deriving DecidableEq, Repr

/-- The bytes the check bytes are computed over: station, control, length, payload (R154). -/
def Frame.checked (f : Frame) : List Byte := f.station :: f.control :: BitVec.ofNat 8 f.payload.length :: f.payload

/-- Check bytes A and B (R154): A is the sum of the bytes, B the sum of the successive values of A, modulo 256. -/
def checkBytes (bs : List Byte) : Byte × Byte := bs.foldl (fun ab x => (ab.1 + x, ab.2 + (ab.1 + x))) (0, 0)

/-- A content byte as it goes out on the line (R154). -/
def escaped (b : Byte) : List Byte := if b = openingByte ∨ b = escapeByte then [escapeByte, b ^^^ 0x40] else [b]

/-- The contents of a frame: the checked bytes, then A and B (R154). -/
def Frame.contents (f : Frame) : List Byte := f.checked ++ [(checkBytes f.checked).1, (checkBytes f.checked).2]

/-- The frame as it stands on the line: the opening byte and the escaped contents (R154). -/
def Frame.wire (f : Frame) : List Byte := openingByte :: f.contents.flatMap escaped

/-- The second byte of an escape and the content byte it gives (R155); `none` for any other byte. -/
def unescaped (b : Byte) : Option Byte := if b = 0xF7 then some openingByte else if b = 0xF8 then some escapeByte else none

/-- Frame kinds, bits 1 to 0 of the control byte (R167). -/
inductive FrameKind where
  | poll | order | pollReply | orderReply
  deriving DecidableEq, Repr

/-- The two bits of a frame kind (R167). -/
def frameKindBits : FrameKind → BitVec 2
  | .poll => 0 | .order => 1 | .pollReply => 2 | .orderReply => 3

/-- Bits 1 to 0 of a control byte (R167). -/
def controlKind (c : Byte) : FrameKind :=
  match (c.extractLsb' 0 2).toNat with
  | 0 => .poll
  | 1 => .order
  | 2 => .pollReply
  | _ => .orderReply

/-- Bits 4 to 2 of a control byte (R167). -/
def controlSeq (c : Byte) : BitVec 3 := c.extractLsb' 2 3

/-- Bits 7 to 5 of a control byte, which the part disregards in a frame from the master (R167). -/
def controlSpare (c : Byte) : BitVec 3 := c.extractLsb' 5 3

/-- A control byte from bits 7 to 5, the sequence and the kind (R167). -/
def controlByte (spare seq : BitVec 3) (k : FrameKind) : Byte := (spare ++ seq ++ frameKindBits k : BitVec (3 + 3 + 2))

/-! ### The receive side, byte by byte (R155) -/

/-- The receive side with the contents taken so far, and whether the next byte is the second of an escape (R155). -/
inductive Assembly where
  | between
  | inFrame (contents : List Byte) (escape : Bool)
  deriving DecidableEq, Repr

/-- What a received byte brings about (R155). -/
inductive LineEvent where
  | newFrame
  | openingAbandonment
  | escapeError (b : Byte)
  | oversize (len : Byte)
  | complete (f : Frame) (checkA checkB : Byte)
  deriving DecidableEq, Repr

/-- The frame that whole contents spell, with the check bytes received: the length byte says where the payload ends
(R155, last paragraph but one). `none` while the contents are not complete. -/
def completeFrame : List Byte → Option (Frame × Byte × Byte)
  | station :: control :: len :: rest =>
    if rest.length = len.toNat + 2 then
      some ({ station := station, control := control, payload := rest.take len.toNat },
        (rest.drop len.toNat).getD 0 0, (rest.drop len.toNat).getD 1 0)
    else none
  | _ => none

/-- One content byte is taken (R155): an oversize length abandons the frame, the last byte completes it. -/
def takeContent (contents : List Byte) (b : Byte) : Assembly × List LineEvent :=
  let contents := contents ++ [b]
  if contents.length = 3 ∧ maxPayload < b.toNat then (.between, [.oversize b])
  else
    match completeFrame contents with
    | some (f, checkA, checkB) => (.between, [.complete f checkA checkB])
    | none => (.inFrame contents false, [])

/-- One received byte, taken while the part is not transmitting (R155, the table and the paragraph after it). -/
def receiveByte (r : Assembly) (b : Byte) : Assembly × List LineEvent :=
  match r with
  | .between => if b = openingByte then (.inFrame [] false, [.newFrame]) else (.between, [])
  | .inFrame contents escape =>
    if b = openingByte then (.inFrame [] false, [.openingAbandonment])
    else if escape then
      match unescaped b with
      | some c => takeContent contents c
      | none => (.between, [.escapeError b])
    else if b = escapeByte then (.inFrame contents true, [])
    else takeContent contents b

/-- A run of received bytes, and what they bring about in order. -/
def receiveBytes : Assembly → List Byte → Assembly × List LineEvent
  | r, [] => (r, [])
  | r, b :: bs =>
    let (r1, e1) := receiveByte r b
    let (r2, e2) := receiveBytes r1 bs
    (r2, e1 ++ e2)

end Sys2Proof.Machine
end

