-- ==== Sys2Proof/Decode.lean ====
section
/-! DEFINITION. From bits to commands. The rows of spec/opcode_table.json give no bits, so no table word spells a command
(notes/assumptions/25.md). What the serial line does spell is a frame: `Instr.frame?` is the frame a command stands for, and
`commandOfFrame` and `commandOfEvent` read the command back from what the receive side has taken (R154 to R156, R161, R167,
R169). -/

namespace Sys2Proof

open Sys2Proof.Machine

/-- The command that a word of the opcode table's bits spells: none, since no row gives bits. -/
def decodeTableWord (_nbits _w : Nat) : Option Instr := none

/-- The command of an order code with its header and parameters (R169). -/
def orderCommand (c : OrderCode) (h : Header) (p : List Byte) : Instr :=
  match c with
  | .identify => .identify h p
  | .getStatus => .getStatus h p
  | .setLink => .setLink h p
  | .getLinkStats => .getLinkStats h p
  | .restart => .restart h p
  | .getTime => .getTime h p
  | .setAxis => .setAxis h p
  | .getAxis => .getAxis h p
  | .enable => .enable h p
  | .disable => .disable h p
  | .setPosition => .setPosition h p
  | .getAxisState => .getAxisState h p
  | .resume => .resume h p
  | .stop => .stop h p
  | .queueSegment => .queueSegment h p
  | .flushQueue => .flushQueue h p
  | .peekQueue => .peekQueue h p
  | .defineProfile => .defineProfile h p
  | .readProfile => .readProfile h p
  | .dropProfile => .dropProfile h p
  | .setTrigger => .setTrigger h p
  | .armTriggers => .armTriggers h p
  | .disarmTriggers => .disarmTriggers h p
  | .clearTriggers => .clearTriggers h p
  | .readTrigger => .readTrigger h p
  | .setOutputs => .setOutputs h p
  | .pulseOutput => .pulseOutput h p
  | .setOutputConfig => .setOutputConfig h p
  | .setPwm => .setPwm h p
  | .getPwm => .getPwm h p
  | .setInputConfig => .setInputConfig h p
  | .getIo => .getIo h p
  | .discardReports => .discardReports h p

/-- The order code, header and parameters of an order; `none` for the commands that are no known order. -/
def Instr.order? : Instr → Option (OrderCode × Header × List Byte)
  | .identify h p => some (.identify, h, p)
  | .getStatus h p => some (.getStatus, h, p)
  | .setLink h p => some (.setLink, h, p)
  | .getLinkStats h p => some (.getLinkStats, h, p)
  | .restart h p => some (.restart, h, p)
  | .getTime h p => some (.getTime, h, p)
  | .setAxis h p => some (.setAxis, h, p)
  | .getAxis h p => some (.getAxis, h, p)
  | .enable h p => some (.enable, h, p)
  | .disable h p => some (.disable, h, p)
  | .setPosition h p => some (.setPosition, h, p)
  | .getAxisState h p => some (.getAxisState, h, p)
  | .resume h p => some (.resume, h, p)
  | .stop h p => some (.stop, h, p)
  | .queueSegment h p => some (.queueSegment, h, p)
  | .flushQueue h p => some (.flushQueue, h, p)
  | .peekQueue h p => some (.peekQueue, h, p)
  | .defineProfile h p => some (.defineProfile, h, p)
  | .readProfile h p => some (.readProfile, h, p)
  | .dropProfile h p => some (.dropProfile, h, p)
  | .setTrigger h p => some (.setTrigger, h, p)
  | .armTriggers h p => some (.armTriggers, h, p)
  | .disarmTriggers h p => some (.disarmTriggers, h, p)
  | .clearTriggers h p => some (.clearTriggers, h, p)
  | .readTrigger h p => some (.readTrigger, h, p)
  | .setOutputs h p => some (.setOutputs, h, p)
  | .pulseOutput h p => some (.pulseOutput, h, p)
  | .setOutputConfig h p => some (.setOutputConfig, h, p)
  | .setPwm h p => some (.setPwm, h, p)
  | .getPwm h p => some (.getPwm, h, p)
  | .setInputConfig h p => some (.setInputConfig, h, p)
  | .getIo h p => some (.getIo, h, p)
  | .discardReports h p => some (.discardReports, h, p)
  | .unknownOrder _ _ | .poll _ _ | .ignoredFrame _ _ _ | .checkFailure _ _ _ _ _ | .escapeError _ | .oversizeFrame _
  | .openingByteAbandonment | .gapAbandonment | .replyStart | .replyEnd | .replyAbandoned | .linkLossEvent
  | .powerOn _ | .resetPin | .resetComplete | .tick | .dwellEnd _ | .inputTimeout _ | .pulseEnd _
  | .filterAcceptance _ | .rawChange _ _ | .stepIssue _ | .stepPulseStart _ | .stepPulseEnd _
  | .tailIntervalExpiry _ | .stopWalkEnd _ | .periodBoundary _ | .pwmDutyEnd _ | .newFrameBegins => none

/-- The control byte of a frame from the master with this header (R167). -/
def Header.control (h : Header) (k : FrameKind) : Byte := controlByte h.spare h.seq k

/-- The header of a received frame (R167). -/
def frameHeader (f : Frame) : Header :=
  { station := f.station, seq := controlSeq f.control, spare := controlSpare f.control }

/-- The frame a command stands for, where it stands for a whole frame (R154, R167, R169). -/
def Instr.frame? (i : Instr) : Option Frame :=
  match i.order? with
  | some (c, h, p) => some { station := h.station, control := h.control .order, payload := orderByte c :: p }
  | none =>
    match i with
    | .unknownOrder h p => some { station := h.station, control := h.control .order, payload := p }
    | .poll h ack => some { station := h.station, control := h.control .poll, payload := ack.toList }
    | .ignoredFrame st c p => some { station := st, control := c, payload := p }
    | .checkFailure st c p _ _ => some { station := st, control := c, payload := p }
    | _ => none

/-- The command a complete frame is, by its check bytes, its kind and its payload (R155, R156, R161, R167, R169). A frame
that the station filter drops keeps its command, whose meaning is then no effect (R156, R160). -/
def commandOfFrame (f : Frame) (checkA checkB : Byte) : Instr :=
  if checkBytes f.checked = (checkA, checkB) then
    match controlKind f.control, f.payload with
    | .order, [] => .unknownOrder (frameHeader f) []
    | .order, c :: p =>
      match orderOfByte c with
      | some k => orderCommand k (frameHeader f) p
      | none => .unknownOrder (frameHeader f) (c :: p)
    | .poll, [] => .poll (frameHeader f) none
    | .poll, [n] => .poll (frameHeader f) (some n)
    | .poll, p => .ignoredFrame f.station f.control p
    | .pollReply, p => .ignoredFrame f.station f.control p
    | .orderReply, p => .ignoredFrame f.station f.control p
  else .checkFailure f.station f.control f.payload checkA checkB

/-- The command that an event of the byte-level receive side is (R155). -/
def commandOfEvent : LineEvent → Instr
  | .newFrame => .newFrameBegins
  | .openingAbandonment => .openingByteAbandonment
  | .escapeError b => .escapeError b
  | .oversize len => .oversizeFrame len
  | .complete f checkA checkB => commandOfFrame f checkA checkB

end Sys2Proof
end

