-- ==== Sys2Proof/Config.lean ====
section
/-! DEFINITION. What the spec leaves open: free choices and free values. They have no body, so nothing can be proved of
the value they take (notes/assumptions/6.md, 7.md and 8.md). State.freeCount says which one is taken next. -/

namespace Sys2Proof

/-- A free choice of an order: which of the receivers of one event takes it first, and so on. Read as a number in the
mixed radix of `permute` (R83, R106, R137, R162 fix no order). DESIGN CHOICE, safe. -/
opaque Config.freeOrder : Nat → Nat

/-- A free byte, for a byte of a reply whose value the spec does not state (R169, GET_PWM). DESIGN CHOICE, safe. -/
opaque Config.freeByte : Nat → Byte

end Sys2Proof
end

