-- ==== Sys2Proof/Machine/State.lean ====
section
/-! DEFINITION. The state of the part, as plain data, block by block (00_scope.md section 3), and its state after
reset. Levels and values that are computed from others (phase, ENA, DIR and OUT pins, ATTN, raw input levels, free
slots) have accessors in Machine/Ops.lean and no field (notes/assumptions/17.md). -/

namespace Sys2Proof.Machine

/-! ### Segments (R1 to R3) -/

/-- What a segment does, with the fields and flags of its kind (R2, R3). -/
inductive Work where
  | move (count rate : Nat) (profile : Option ProfileId) (negative : Bool)
  | goto (target : Position) (rate : Nat) (profile : Option ProfileId)
  | run (rate : Nat) (profile : Option ProfileId) (negative seekSlow : Bool)
  | home (limit rate : Nat) (profile : Option ProfileId) (negative zeroAtHome abruptAtHome : Bool)
  | dwell (time : Nat)
  | join (token : Nat) (members : AxisMask)
  | waitInput (input : Fin 4) (wanted : Bool) (timeout : Nat)
  deriving DecidableEq, Repr

/-- The segment kinds (R1, R173). -/
inductive Kind where
  | move | goto | run | home | dwell | join | waitInput
  deriving DecidableEq, Repr

/-- A segment record (R1). The axis is implied by the queue that holds it. -/
structure Segment where
  tag    : Byte
  report : Bool
  work   : Work
  deriving DecidableEq, Repr

/-! ### Profiles and plans (R20, R27) -/

/-- A stage of a profile: a rate and a number of steps (R20). -/
structure Stage where
  rate  : Nat
  steps : Nat
  deriving DecidableEq, Repr

/-- The phases of an axis and of a leg (R42, R173). -/
inductive Phase where
  | none | accel | peak | cruise | decel | wait | stopWalk
  deriving DecidableEq, Repr

/-- A leg of a plan or of a walk (R27). `steps` is `none` for the open last leg of an uncounted plan. -/
structure Leg where
  phase : Phase
  rate  : Nat
  steps : Option Nat
  deriving DecidableEq, Repr

/-- A list of legs and the point reached in it (R41): the leg, and how many of its steps have been issued. -/
structure Track where
  legs  : List Leg
  leg   : Nat
  inLeg : Nat
  deriving DecidableEq, Repr

/-! ### The axis engine (R36, R40 to R43, R61, R63) -/

/-- What an axis does at link loss (R36, R85). -/
inductive LinkLossAction where
  | ramped | abrupt | continue
  deriving DecidableEq, Repr

/-- The configuration record of an axis (R36). -/
structure AxisConfig where
  maxRate         : Nat
  pullInRate      : Nat
  slowThreshold   : Nat
  stopProfile     : Option ProfileId
  linkLossAction  : LinkLossAction
  estopDisables   : Bool
  directionInvert : Bool
  stepPulseWidth  : Nat
  deriving DecidableEq, Repr

/-- The six axis states (R40). -/
inductive AxisState where
  | disabled | idle | running | waiting | stopping | held
  deriving DecidableEq, Repr

/-- The stop causes (R65). -/
inductive Cause where
  | complete | homed | slowReached | stoppedByOrder | triggerStop | linkLost | slowZone | limitPos | limitNeg
  | driverAlarm | estop | homeNotFound | homeActive | rateRange | positionRange | joinMismatch | joinBroken
  | inputTimeout
  deriving DecidableEq, Repr

/-- The held cause of an axis: a stop cause, ENABLED or NONE (R43). -/
inductive HeldCause where
  | stopped (c : Cause)
  | enabled
  | none
  deriving DecidableEq, Repr

/-- Directions of motion (00 section 5). -/
inductive Direction where
  | positive | negative
  deriving DecidableEq, Repr

/-- The two manners of stopping (R66). -/
inductive StopMode where
  | ramped | abrupt
  deriving DecidableEq, Repr

/-- The progress record of the active segment (R41). A part that the segment's kind does not have is `none`; a plan
that it does not have is a track without legs. -/
structure Progress where
  direction     : Option Direction
  plan          : Track
  count         : Option Nat
  stepsTaken    : Nat
  walk          : Option Track
  walkProfile   : Option ProfileId
  recordedCause : Option Cause
  flushPending  : Bool
  homeDetected  : Bool
  deadline      : Option Uptime
  rate          : Nat
  deriving DecidableEq, Repr

/-- The last end record (R61). -/
structure EndRecord where
  tag         : Byte
  kind        : Kind
  cause       : Cause
  stepsTaken  : Nat
  endPosition : Position
  discarded   : Nat
  deriving DecidableEq, Repr

/-- One axis: its engine's state (03_the_axis_engine.md) and its queue in the segment pool (R6), oldest segment first.
`shownDir` is the direction the DIR pin shows. `dirChanges` lists the levels that DIR has still to take, each with the
number of STEP pulse ends it waits for (R63, notes/assumptions/13.md). -/
structure Axis where
  config        : AxisConfig
  state         : AxisState
  heldCause     : HeldCause
  position      : Position
  progress      : Option Progress
  lastEnd       : Option EndRecord
  queue         : List Segment
  logicalDir    : Direction
  shownDir      : Direction
  dirChanges    : List (Nat × Direction)
  stepActive    : Bool
  pulsesWaiting : Nat
  deriving DecidableEq, Repr

/-! ### Joins (R97) -/

/-- An open join record (R97). -/
structure JoinRecord where
  token   : Nat
  members : AxisMask
  arrived : AxisMask
  deriving DecidableEq, Repr

/-! ### Triggers (R109, R110) -/

/-- The states of a trigger slot (R109). -/
inductive SlotState where
  | free | disarmed | armed | spent
  deriving DecidableEq, Repr

/-- The step directions that can fire a trigger (R109). -/
inductive Qualifier where
  | positive | negative | either
  deriving DecidableEq, Repr

/-- Whether a trigger becomes SPENT when it fires (R109). -/
inductive TriggerMode where
  | oneshot | rearm
  deriving DecidableEq, Repr

/-- The actions of a trigger (R110). -/
inductive Action where
  | outSet (n : Fin 8)
  | outClear (n : Fin 8)
  | outPulse (n : Fin 8) (width : Nat)
  | pwmDuty (c : Fin 2) (duty : Nat)
  | stopAxis (k : AxisId) (mode : StopMode)
  | armSlot (m : Fin 24)
  | note
  deriving DecidableEq, Repr

/-- The fields of a trigger that SET_TRIGGER writes (R109). -/
structure TriggerFields where
  axis      : AxisId
  position  : Position
  qualifier : Qualifier
  mode      : TriggerMode
  report    : Bool
  action    : Action
  deriving DecidableEq, Repr

/-- A slot of the trigger table (R109). The fields of a FREE slot are absent. -/
structure TriggerSlot where
  state     : SlotState
  fields    : Option TriggerFields
  fireCount : Nat
  deriving DecidableEq, Repr

/-! ### Outputs (R124, R130) -/

/-- The level an output takes at link loss (R124). -/
inductive LossLevel where
  | keep | active | inactive
  deriving DecidableEq, Repr

/-- The record of a general output (R124). `deadline` is `none` while the pulse timer is stopped. -/
structure OutputRecord where
  level     : Bool
  activeLow : Bool
  deadline  : Option Uptime
  lossLevel : LossLevel
  deriving DecidableEq, Repr

/-- A period and a duty in microseconds (R130). -/
structure PwmSetting where
  period : Nat
  duty   : Nat
  deriving DecidableEq, Repr

/-- The record of a PWM channel (R130), with the level of its pin. -/
structure PwmChannel where
  enabled   : Bool
  active    : PwmSetting
  pending   : Option PwmSetting
  offOnLoss : Bool
  pinActive : Bool
  deriving DecidableEq, Repr

/-! ### Inputs (R134) -/

/-- The record of an input (R134). `pinHigh` is the level the outside gives the pin; the raw level is computed from it
and the polarity. -/
structure InputRecord where
  pinHigh    : Bool
  activeHigh : Bool
  accepted   : Bool
  pending    : Option Uptime
  deriving DecidableEq, Repr

/-- The five input records of one axis. -/
structure AxisInputs where
  limp  : InputRecord
  limn  : InputRecord
  slow  : InputRecord
  home  : InputRecord
  alarm : InputRecord
  deriving DecidableEq, Repr

/-- The input block (R134). -/
structure InputBlock where
  axes           : Vector AxisInputs 4
  general        : Vector InputRecord 4
  estop          : InputRecord
  axisFilter     : Vector Nat 4
  generalFilter  : Vector Nat 4
  reportOnChange : BitVec 4
  deriving DecidableEq, Repr

/-! ### Reports (R144, R145) -/

/-- The cause of a reset (R152). -/
inductive ResetCause where
  | power | pin | order
  deriving DecidableEq, Repr

/-- The kind of a report with its body (R144). -/
inductive ReportBody where
  | restarted (c : ResetCause)
  | segmentDone (a : AxisId) (e : EndRecord)
  | triggerFired (slot : Fin 24) (a : AxisId) (position : Position) (fireCount : Nat)
  | estopChanged (level : Bool)
  | linkLost (timeout : Nat)
  | inputChanged (i : Fin 4) (level : Bool)
  deriving DecidableEq, Repr

/-- A report record (R144). -/
structure Report where
  number     : Byte
  timestamp  : Uptime
  lostBefore : Nat
  body       : ReportBody
  deriving DecidableEq, Repr

/-- The report queue (R145), oldest record first. -/
structure ReportQueue where
  records    : List Report
  nextNumber : Byte
  dropped    : Nat
  attention  : Bool
  deriving DecidableEq, Repr

/-! ### The line interface (R153, R155, R157, R158, R162, R164) -/

/-- The receive side (R155, notes/assumptions/5.md). -/
inductive ReceiveSide where
  | between | inFrame
  deriving DecidableEq, Repr

/-- The two kinds of reply (R157, R167). -/
inductive ReplyKind where
  | pollReply | orderReply
  deriving DecidableEq, Repr

/-- A reply frame as built (R157). `restarts` marks the reply after which the RESTART reset is taken (R166). -/
structure Reply where
  station  : Byte
  kind     : ReplyKind
  seq      : BitVec 3
  payload  : List Byte
  restarts : Bool
  deriving DecidableEq, Repr

/-- The transmit side: no reply, a reply built and not yet begun, or a reply under transmission with its two flags
REPORTS_PENDING and LINK_WAS_LOST (R157). -/
inductive TransmitSide where
  | silent
  | built (r : Reply)
  | sending (r : Reply) (reportsPending linkWasLost : Bool)
  deriving DecidableEq, Repr

/-- The link state (R162). -/
inductive LinkState where
  | up | lost
  deriving DecidableEq, Repr

/-- The link statistics counters, 0 to 65,535 (R164). -/
structure LinkStats where
  checkFailures : Nat
  escapeErrors  : Nat
  oversize      : Nat
  gaps          : Nat
  openings      : Nat
  deriving DecidableEq, Repr

/-- The line interface. `addressPins` and `speedPins` are the strap pins as the outside holds them; `address` and
`speed` are the values read at the last reset (R153). -/
structure LineInterface where
  addressPins : BitVec 5
  speedPins   : BitVec 2
  address     : BitVec 5
  speed       : BitVec 2
  receive     : ReceiveSide
  transmit    : TransmitSide
  cache       : Option (BitVec 3 × List Byte)
  link        : LinkState
  timeout     : Nat
  timer       : Option Uptime
  wasLost     : Bool
  stats       : LinkStats
  deriving DecidableEq, Repr

/-! ### The whole part -/

/-- The state of the part. `resetHeld` is the cause of the reset the part is held in while the RESET pin stays active
(R166). `freeCount` counts the free choices taken (notes/assumptions/6.md) and `pending` is the queue of waiting commands
(notes/assumptions/2.md): these two are the model's own fields. -/
structure State where
  axes      : Vector Axis 4
  joins     : List JoinRecord
  profiles  : Vector (List Stage) 8
  triggers  : Vector TriggerSlot 24
  outputs   : Vector OutputRecord 8
  pwm       : Vector PwmChannel 2
  inputs    : InputBlock
  uptime    : Uptime
  reports   : ReportQueue
  line      : LineInterface
  resetHeld : Option ResetCause
  freeCount : Nat
  pending   : List Instr
  deriving DecidableEq, Repr

/-- The reasons the machine stops with a fault: none. The spec gives the part no fault that stops it (R161, R155: a bad
order is refused in its reply and a bad frame is dropped). -/
inductive Fault where
  deriving DecidableEq, Repr

/-- The reasons a command has no meaning here. -/
inductive Refusal where
  /-- Raised by `exec`'s arm for a command that has no meaning in the model. No arm raises it: every row of the table
  has its meaning. Safe. -/
  | notModelled (mnemonic : String)
  deriving DecidableEq, Repr

/-! ### Reset values, block by block -/

/-- R36, the defaults. -/
def AxisConfig.reset : AxisConfig :=
  { maxRate := 10000, pullInRate := 500, slowThreshold := 2000, stopProfile := none, linkLossAction := .ramped
    estopDisables := true, directionInvert := false, stepPulseWidth := 5 }

/-- R64 and R18. -/
def Axis.reset : Axis :=
  { config := .reset, state := .disabled, heldCause := .none, position := 0, progress := none, lastEnd := none
    queue := [], logicalDir := .positive, shownDir := .positive, dirChanges := [], stepActive := false
    pulsesWaiting := 0 }

/-- R109. -/
def TriggerSlot.reset : TriggerSlot := { state := .free, fields := none, fireCount := 0 }

/-- R124. -/
def OutputRecord.reset : OutputRecord := { level := false, activeLow := false, deadline := none, lossLevel := .keep }

/-- R130. -/
def PwmChannel.reset : PwmChannel :=
  { enabled := false, active := { period := 1000, duty := 0 }, pending := none, offOnLoss := false, pinActive := false }

/-- R164. -/
def LinkStats.reset : LinkStats := { checkFailures := 0, escapeErrors := 0, oversize := 0, gaps := 0, openings := 0 }

/-- R152 step 1. -/
def ReportQueue.reset : ReportQueue := { records := [], nextNumber := 0, dropped := 0, attention := true }

/-- R166, last paragraph, with the strap values given. -/
def LineInterface.reset (addressPins address : BitVec 5) (speedPins speed : BitVec 2) : LineInterface :=
  { addressPins := addressPins, speedPins := speedPins, address := address, speed := speed, receive := .between
    transmit := .silent, cache := none, link := .up, timeout := 0, timer := none, wasLost := false, stats := .reset }

/-- An input at rest: reset polarity (R134), the pin at its inactive level (DESIGN CHOICE, notes/assumptions/9.md), the
accepted level sampled from it (R136). -/
def InputRecord.atRest (activeHigh : Bool) : InputRecord :=
  { pinHigh := !activeHigh, activeHigh := activeHigh, accepted := false, pending := none }

/-- R134: the five inputs of an axis are active-low at reset. -/
def AxisInputs.atRest : AxisInputs :=
  { limp := .atRest false, limn := .atRest false, slow := .atRest false, home := .atRest false, alarm := .atRest false }

/-- R134 and R136, with every pin at its inactive level (DESIGN CHOICE, notes/assumptions/9.md). -/
def InputBlock.atRest : InputBlock :=
  { axes := Vector.replicate 4 .atRest, general := Vector.replicate 4 (.atRest true), estop := .atRest false
    axisFilter := Vector.replicate 4 2, generalFilter := Vector.replicate 4 2, reportOnChange := 0 }

/-- The part right after the reset at power-on with the RESET pin inactive (R166): every block at its reset values, and
the one RESTARTED report with cause POWER, number 0 (R152). The outside is at rest: inputs inactive
(notes/assumptions/9.md), address strap 1 and speed strap 0 (notes/assumptions/10.md). -/
def State.reset : State :=
  { axes := Vector.replicate 4 .reset, joins := [], profiles := Vector.replicate 8 []
    triggers := Vector.replicate 24 .reset, outputs := Vector.replicate 8 .reset, pwm := Vector.replicate 2 .reset
    inputs := .atRest, uptime := 0
    reports :=
      { records := [{ number := 0, timestamp := 0, lostBefore := 0, body := .restarted .power }], nextNumber := 1
        dropped := 0, attention := true }
    line := .reset 1 1 0 0, resetHeld := none, freeCount := 0, pending := [] }

end Sys2Proof.Machine
end

