-- ==== Sys2Proof/Machine/Ops.lean ====
section
/-! DEFINITION. The named operations over the parts of the state that every block shares: reading and writing one axis,
slot, output, channel or input record, free choices, the free slot count, computed levels, and the admission of a
report (R146). Taking an exception has no counterpart in this part: it has no exception entry. -/

namespace Sys2Proof.Machine

/-! ### Free choices (notes/assumptions/6.md) -/

/-- Put `x` into place `n` of a list, or at its end. -/
def insertAt {α : Type} : Nat → α → List α → List α
  | 0, x, l => x :: l
  | _ + 1, x, [] => [x]
  | n + 1, x, y :: l => y :: insertAt n x l

/-- The order of a list that the number `k` names: every order of the list is named by some `k`. -/
def permute {α : Type} : Nat → List α → List α
  | _, [] => []
  | _, [x] => [x]
  | k, x :: y :: l => insertAt (k % (l.length + 2)) x (permute (k / (l.length + 2)) (y :: l))

/-- Take a free order of `l`. A list of at most one element has one order, and no choice is taken. -/
def drawOrder {α : Type} (l : List α) (s : State) : List α × State :=
  match l with
  | [] => ([], s)
  | [x] => ([x], s)
  | x :: y :: r => (permute (Config.freeOrder s.freeCount) (x :: y :: r), { s with freeCount := s.freeCount + 1 })

/-! ### Axes -/

/-- The axis numbers in ascending order. -/
def axisIds : List AxisId := [0, 1, 2, 3]

/-- The axes a mask names, in ascending order (00 section 5). -/
def axesOf (m : AxisMask) : List AxisId := axisIds.filter fun a => m.getLsbD a.val

/-- The mask that names one axis. -/
def axisBit (a : AxisId) : AxisMask := BitVec.twoPow 4 a.val

/-- One axis of the part. -/
def State.axis (s : State) (a : AxisId) : Axis := s.axes[a]

/-- Write one axis whole. -/
def State.setAxis (s : State) (a : AxisId) (x : Axis) : State := { s with axes := s.axes.set a x }

/-- The active segment of an axis with its progress record: the head of the queue while the axis is RUNNING, WAITING
or STOPPING (R6, R41). -/
def Axis.active (x : Axis) : Option (Segment × Progress) :=
  match x.state, x.queue, x.progress with
  | .running, g :: _, some p => some (g, p)
  | .waiting, g :: _, some p => some (g, p)
  | .stopping, g :: _, some p => some (g, p)
  | _, _, _ => none

/-- Whether the axis is RUNNING, WAITING or STOPPING, as the BUSY checks ask (R15, R37, R45, R47, R96). -/
def Axis.busy (x : Axis) : Bool :=
  match x.state with
  | .running | .waiting | .stopping => true
  | .disabled | .idle | .held => false

/-- Whether a flush is pending on the active segment (R41). -/
def Axis.flushPending (x : Axis) : Bool :=
  match x.progress with
  | some p => p.flushPending
  | none => false

/-- The phase of the leg that holds the most recently issued step of a track (R42). -/
def Track.phase (t : Track) : Phase :=
  match t.legs[t.leg]? with
  | some l => l.phase
  | none => .none

/-- The phase of the axis (R42). -/
def Axis.phase (x : Axis) : Phase :=
  match x.state with
  | .disabled | .idle | .held => .none
  | .waiting => .wait
  | .stopping => .stopWalk
  | .running =>
    match x.progress with
    | some p => p.plan.phase
    | none => .none

/-- The current rate of the axis (R42): the rate of the most recently issued step while RUNNING or STOPPING, else 0. -/
def Axis.currentRate (x : Axis) : Nat :=
  match x.state, x.progress with
  | .running, some p => p.rate
  | .stopping, some p => p.rate
  | _, _ => 0

/-- The ENA pin: active in every state but DISABLED (R63). -/
def Axis.ena (x : Axis) : Bool := x.state != .disabled

/-- The level of the DIR pin, true for high (R63): positive is high without direction_invert and low with it. -/
def Axis.dirHigh (x : Axis) : Bool := (x.shownDir == .positive) != x.config.directionInvert

/-- How many STEP pulses of the axis are under way or yet to begin (R63). -/
def Axis.pulsesOutstanding (x : Axis) : Nat := x.pulsesWaiting + x.stepActive.toNat

/-! ### The segment pool (R5, R6) -/

/-- The number of segments in the four queues. -/
def State.queued (s : State) : Nat :=
  (s.axis 0).queue.length + (s.axis 1).queue.length + (s.axis 2).queue.length + (s.axis 3).queue.length

/-- The number of free pool slots (R5). -/
def State.freeSlots (s : State) : Nat := 48 - s.queued

/-! ### Segment fields (R2, R3) -/

/-- The kind of a segment (R1). -/
def Work.kind : Work → Kind
  | .move .. => .move
  | .goto .. => .goto
  | .run .. => .run
  | .home .. => .home
  | .dwell .. => .dwell
  | .join .. => .join
  | .waitInput .. => .waitInput

/-- The profile a segment names, if it names one (R4). -/
def Work.profile : Work → Option ProfileId
  | .move _ _ p _ => p
  | .goto _ _ p => p
  | .run _ p _ _ => p
  | .home _ _ p _ _ _ => p
  | .dwell _ | .join _ _ | .waitInput _ _ _ => none

/-! ### Profiles, triggers, outputs and channels -/

/-- The stage list of a profile; the empty list is the state EMPTY (R20). -/
def State.profile (s : State) (p : ProfileId) : List Stage := s.profiles[p]

/-- Write one profile. -/
def State.setProfile (s : State) (p : ProfileId) (l : List Stage) : State := { s with profiles := s.profiles.set p l }

/-- One trigger slot. -/
def State.trigger (s : State) (i : Fin 24) : TriggerSlot := s.triggers[i]

/-- Write one trigger slot. -/
def State.setTrigger (s : State) (i : Fin 24) (t : TriggerSlot) : State := { s with triggers := s.triggers.set i t }

/-- The slot numbers in ascending order. -/
def slotIds : List (Fin 24) := List.finRange 24

/-- The slots a mask names, in ascending order (00 section 5). -/
def slotsOf (m : SlotMask) : List (Fin 24) := slotIds.filter fun i => m.getLsbD i.val

/-- One general output. -/
def State.output (s : State) (n : Fin 8) : OutputRecord := s.outputs[n]

/-- Write one general output. -/
def State.setOutput (s : State) (n : Fin 8) (o : OutputRecord) : State := { s with outputs := s.outputs.set n o }

/-- The output numbers in ascending order. -/
def outputIds : List (Fin 8) := List.finRange 8

/-- The level of an output's pin, true for high (R124). -/
def OutputRecord.pinHigh (o : OutputRecord) : Bool := o.level != o.activeLow

/-- One PWM channel. -/
def State.channel (s : State) (c : Fin 2) : PwmChannel := s.pwm[c]

/-- Write one PWM channel. -/
def State.setChannel (s : State) (c : Fin 2) (p : PwmChannel) : State := { s with pwm := s.pwm.set c p }

/-! ### Inputs -/

/-- The raw level of an input: its pin level read through its polarity (R134). -/
def InputRecord.raw (r : InputRecord) : Bool := r.pinHigh == r.activeHigh

/-- The record of one line of an axis. -/
def AxisInputs.line (x : AxisInputs) : AxisLine → InputRecord
  | .limp => x.limp
  | .limn => x.limn
  | .slow => x.slow
  | .home => x.home
  | .alarm => x.alarm

/-- Write the record of one line of an axis. -/
def AxisInputs.setLine (x : AxisInputs) (l : AxisLine) (r : InputRecord) : AxisInputs :=
  match l with
  | .limp => { x with limp := r }
  | .limn => { x with limn := r }
  | .slow => { x with slow := r }
  | .home => { x with home := r }
  | .alarm => { x with alarm := r }

/-- The record of an input (R134). -/
def State.input (s : State) : InputId → InputRecord
  | .axis a l => s.inputs.axes[a].line l
  | .general i => s.inputs.general[i]
  | .estop => s.inputs.estop

/-- Write the record of an input. -/
def State.setInput (s : State) (i : InputId) (r : InputRecord) : State :=
  match i with
  | .axis a l => { s with inputs := { s.inputs with axes := s.inputs.axes.set a (s.inputs.axes[a].setLine l r) } }
  | .general i => { s with inputs := { s.inputs with general := s.inputs.general.set i r } }
  | .estop => { s with inputs := { s.inputs with estop := r } }

/-- The accepted level of an input, as every other rule reads it (R137). -/
def State.accepted (s : State) (i : InputId) : Bool := (s.input i).accepted

/-- The filter time of an input in ms: the axis filter, the input's own filter, or 1 for ESTOP (R134). -/
def State.filterTime (s : State) : InputId → Nat
  | .axis a _ => s.inputs.axisFilter[a]
  | .general i => s.inputs.generalFilter[i]
  | .estop => 1

/-- Whether ESTOP is accepted active. -/
def State.estopActive (s : State) : Bool := s.accepted .estop

/-- Whether the ALARM input of an axis is accepted active. -/
def State.alarmActive (s : State) (a : AxisId) : Bool := s.accepted (.axis a .alarm)

/-! ### Time -/

/-- The deadline `t` ms from now: the uptime as it stands plus `t`, modulo 2³² (R91, R127, R135, R162). -/
def State.deadlineIn (s : State) (t : Nat) : Uptime := s.uptime + BitVec.ofNat 32 t

/-- Whether a deadline is the one the latest tick has reached (R142). -/
def State.due (s : State) (d : Option Uptime) : Bool := d == some s.uptime

/-! ### Reports (R146, R151) -/

/-- Add one, and stay at `top` once there (R109, R145, R164). -/
def addSaturating (top n : Nat) : Nat := if n < top then n + 1 else n

/-- The report queue takes one admission (R146): with room the record is appended, numbered, and carries the dropped
count, which is cleared; without room it is discarded and counted. -/
def ReportQueue.enter (q : ReportQueue) (now : Uptime) (b : ReportBody) : ReportQueue :=
  if q.records.length < 32 then
    { q with
      records := q.records ++ [{ number := q.nextNumber, timestamp := now, lostBefore := q.dropped, body := b }]
      nextNumber := q.nextNumber + 1
      dropped := 0 }
  else { q with dropped := addSaturating 255 q.dropped }

/-- A block admits a report; the timestamp is the uptime at the event (R144). -/
def admitReport (b : ReportBody) (s : State) : State := { s with reports := s.reports.enter s.uptime b }

/-- Whether ATTN is asserted: attention is enabled and the report queue is not empty (R151). -/
def State.attnAsserted (s : State) : Bool := s.reports.attention && !s.reports.records.isEmpty

end Sys2Proof.Machine
end

