-- ==== Sys2Proof/Machine/Outputs.lean ====
section
/-! DEFINITION. The output block's requests, whoever makes them: levels and pulses of the general outputs (R126, R127),
PWM records and period boundaries (R130 to R132), and the link-loss request (R129). -/

namespace Sys2Proof.Machine

/-- A set request: the output takes the level and its pulse timer stops (R126, R128). -/
def setLevel (n : Fin 8) (level : Bool) (s : State) : State :=
  s.setOutput n { s.output n with level := level, deadline := none }

/-- A pulse request: the output becomes active and its timer is started or replaced (R127). -/
def startPulse (n : Fin 8) (width : Nat) (s : State) : State :=
  s.setOutput n { s.output n with level := true, deadline := some (s.deadlineIn width) }

/-- A record as it becomes active: a duty above the period is clamped to it (R130). -/
def PwmSetting.clamped (r : PwmSetting) : PwmSetting := { r with duty := min r.duty r.period }

/-- A period boundary of an enabled channel (R130): a pending record is applied, and the pin is active when the duty is
not 0. -/
def PwmChannel.boundary (c : PwmChannel) : PwmChannel :=
  let active := match c.pending with
    | some r => r.clamped
    | none => c.active
  { c with active := active, pending := none, pinActive := decide (0 < active.duty) }

/-- A disabled channel (R131): the pin becomes inactive at once and the pending record is discarded; the active record
is kept. -/
def PwmChannel.disabled (c : PwmChannel) : PwmChannel := { c with enabled := false, pending := none, pinActive := false }

/-- A SET_PWM with the enable flag set (R131): on a disabled channel the record becomes active and a boundary falls; on an
enabled one it becomes the pending record. -/
def PwmChannel.enableWith (c : PwmChannel) (r : PwmSetting) : PwmChannel :=
  if c.enabled then { c with pending := some r }
  else { c with enabled := true, active := r.clamped, pending := none }.boundary

/-- The PWM_DUTY request of a trigger (R132). -/
def PwmChannel.writeDuty (c : PwmChannel) (duty : Nat) : PwmChannel :=
  if c.enabled then
    match c.pending with
    | some r => { c with pending := some { r with duty := duty } }
    | none => { c with pending := some { period := c.active.period, duty := duty } }
  else { c with active := { c.active with duty := min duty c.active.period } }

/-- What an output does at the link-loss event (R129). -/
def OutputRecord.atLoss (o : OutputRecord) : OutputRecord :=
  match o.lossLevel with
  | .active => { o with level := true, deadline := none }
  | .inactive => { o with level := false, deadline := none }
  | .keep => o

/-- What a channel does at the link-loss event (R129). -/
def PwmChannel.atLoss (c : PwmChannel) : PwmChannel :=
  if c.offOnLoss then (if c.enabled then c.disabled else c) else c

/-- The output block takes the link-loss event (R129). -/
def outputsAtLoss (s : State) : State :=
  let s := outputIds.foldl (fun s n => s.setOutput n (s.output n).atLoss) s
  [0, 1].foldl (fun s c => s.setChannel c (s.channel c).atLoss) s

end Sys2Proof.Machine
end

