-- ==== Sys2Proof/Machine/Flags.lean ====
section
/-! DEFINITION. Everything the part writes as a code or a flag: quantities low byte first (R168), the value codes of
R173, the properties of the stop causes (R65), the mask, level and presence bytes of R169, and the two reply flags of the
control byte (R157, R167). -/

namespace Sys2Proof.Machine

/-! ### Quantities (R168) -/

/-- An unsigned quantity in `k` bytes, low byte first (R168). -/
def leBytes : Nat → Nat → List Byte
  | 0, _ => []
  | k + 1, n => BitVec.ofNat 8 n :: leBytes k (n / 256)

/-- A position in three bytes, low byte first (R168). -/
def positionBytes (p : Position) : List Byte := leBytes 3 p.toNat

/-- A yes/no, set/clear or level byte (R168). -/
def flagByte (b : Bool) : Byte := if b then 1 else 0

/-- A byte whose bit n is the n-th of the levels, low bit first. -/
def bitsByte : List Bool → Byte
  | [] => 0
  | b :: l => flagByte b + (bitsByte l <<< 1)

/-- An optional profile (R168). -/
def profileByte : Option ProfileId → Byte
  | some p => BitVec.ofNat 8 p.val
  | none => 0xFF

/-! ### Value codes (R173) -/

def axisStateCode : AxisState → Byte
  | .disabled => 0 | .idle => 1 | .running => 2 | .waiting => 3 | .stopping => 4 | .held => 5

def phaseCode : Phase → Byte
  | .none => 0 | .accel => 1 | .peak => 2 | .cruise => 3 | .decel => 4 | .wait => 5 | .stopWalk => 6

def kindCode : Kind → Byte
  | .move => 1 | .goto => 2 | .run => 3 | .home => 4 | .dwell => 5 | .join => 6 | .waitInput => 7

/-- The code of a stop cause (R65). -/
def causeCode : Cause → Byte
  | .complete => 0 | .homed => 1 | .slowReached => 2 | .stoppedByOrder => 3 | .triggerStop => 4 | .linkLost => 5
  | .slowZone => 6 | .limitPos => 7 | .limitNeg => 8 | .driverAlarm => 9 | .estop => 10 | .homeNotFound => 11
  | .homeActive => 12 | .rateRange => 13 | .positionRange => 14 | .joinMismatch => 15 | .joinBroken => 16
  | .inputTimeout => 17

def heldCauseCode : HeldCause → Byte
  | .stopped c => causeCode c | .enabled => 20 | .none => 255

def linkLossCode : LinkLossAction → Byte
  | .ramped => 0 | .abrupt => 1 | .continue => 2

def slotStateCode : SlotState → Byte
  | .free => 0 | .disarmed => 1 | .armed => 2 | .spent => 3

def qualifierCode : Qualifier → Byte
  | .positive => 0 | .negative => 1 | .either => 2

def triggerModeCode : TriggerMode → Byte
  | .oneshot => 0 | .rearm => 1

def stopModeCode : StopMode → Byte
  | .ramped => 0 | .abrupt => 1

def resetCauseCode : ResetCause → Byte
  | .power => 0 | .pin => 1 | .order => 2

/-- The profile state: EMPTY without stages, else DEFINED (R20, R173). -/
def profileStateCode (l : List Stage) : Byte := if l.isEmpty then 0 else 1

/-- The outcome codes of an order (R173). -/
inductive OutcomeCode where
  | accepted | unknownOrder | badLength | badValue | busy | poolFull | profileEmpty | profileInUse | triggerArmed
  | triggerFree | estopActive | alarmActive | configConflict
  deriving DecidableEq, Repr

def outcomeCode : OutcomeCode → Byte
  | .accepted => 0 | .unknownOrder => 1 | .badLength => 2 | .badValue => 3 | .busy => 4 | .poolFull => 5
  | .profileEmpty => 6 | .profileInUse => 7 | .triggerArmed => 8 | .triggerFree => 9 | .estopActive => 10
  | .alarmActive => 11 | .configConflict => 12

/-! ### Properties of the stop causes -/

/-- Whether a cause is normal (R65). -/
def Cause.normal : Cause → Bool
  | .complete | .homed | .slowReached => true
  | .stoppedByOrder | .triggerStop | .linkLost | .slowZone | .limitPos | .limitNeg | .driverAlarm | .estop
  | .homeNotFound | .homeActive | .rateRange | .positionRange | .joinMismatch | .joinBroken | .inputTimeout => false

/-- Whether an end with this cause makes the join unit search for records to break: a cause that is not normal and not
STOPPED_BY_ORDER (R59 step 6, R102). -/
def Cause.breaks (c : Cause) : Bool := !c.normal && c != .stoppedByOrder

/-! ### Bytes of the replies (R169, R171, R172) -/

/-- The state codes of the four axes (R44, R73, R149). -/
def stateCodes (s : State) : List Byte := axisIds.map fun a => axisStateCode (s.axis a).state

/-- The eleven configuration bytes of SET_AXIS and GET_AXIS (R169). -/
def configBytes (c : AxisConfig) : List Byte :=
  leBytes 2 c.maxRate ++ leBytes 2 c.pullInRate ++ leBytes 2 c.slowThreshold ++
    [profileByte c.stopProfile, linkLossCode c.linkLossAction, flagByte c.estopDisables, flagByte c.directionInvert,
      BitVec.ofNat 8 c.stepPulseWidth]

/-- The ten bytes of an end record (R169, R172). -/
def endRecordBytes (e : EndRecord) : List Byte :=
  [e.tag, kindCode e.kind, causeCode e.cause] ++ leBytes 3 e.stepsTaken ++ positionBytes e.endPosition ++
    [BitVec.ofNat 8 e.discarded]

/-- The steps remaining of the active segment: present in RUNNING and STOPPING with a MOVE or GOTO active (R62). -/
def Axis.stepsRemaining (x : Axis) : Option Nat :=
  match x.state, x.progress with
  | .running, some p => p.count.map (· - p.stepsTaken)
  | .stopping, some p => p.count.map (· - p.stepsTaken)
  | _, _ => none

/-- The 28 bytes of a GET_AXIS_STATE result (R62, R169): an absent field is zeros with its presence bit clear. -/
def axisStateBytes (x : Axis) : List Byte :=
  [axisStateCode x.state, phaseCode x.phase, heldCauseCode x.heldCause] ++ positionBytes x.position ++
    leBytes 2 x.currentRate ++
    [bitsByte [x.active.isSome, x.stepsRemaining.isSome, x.lastEnd.isSome]] ++
    (match x.active with
      | some (g, p) => [g.tag, kindCode g.work.kind] ++ leBytes 3 p.stepsTaken
      | none => [0, 0] ++ leBytes 3 0) ++
    leBytes 3 (x.stepsRemaining.getD 0) ++
    [BitVec.ofNat 8 x.queue.length] ++
    (match x.lastEnd with
      | some e => endRecordBytes e
      | none => List.replicate 10 0)

/-- Code and parameter bytes of a trigger's action (R171). -/
def actionBytes : Action → List Byte
  | .outSet n => [1, BitVec.ofNat 8 n.val, 0, 0]
  | .outClear n => [2, BitVec.ofNat 8 n.val, 0, 0]
  | .outPulse n w => [3, BitVec.ofNat 8 n.val] ++ leBytes 2 w
  | .pwmDuty c d => [4, BitVec.ofNat 8 c.val] ++ leBytes 2 d
  | .stopAxis k m => [5, BitVec.ofNat 8 k.val, stopModeCode m, 0]
  | .armSlot m => [6, BitVec.ofNat 8 m.val, 0, 0]
  | .note => [7, 0, 0, 0]

/-- The eleven field bytes of a trigger (R171); eleven zeros for a FREE slot. -/
def triggerFieldBytes : Option TriggerFields → List Byte
  | some f =>
    [BitVec.ofNat 8 f.axis.val] ++ positionBytes f.position ++
      [qualifierCode f.qualifier, triggerModeCode f.mode, flagByte f.report] ++ actionBytes f.action
  | none => List.replicate 11 0

/-- The mask of the slots that are ARMED (R112 to R114). -/
def armedMask (s : State) : SlotMask :=
  (slotIds.filter fun i => (s.trigger i).state == .armed).foldl (fun m i => m ||| BitVec.twoPow 24 i.val) 0

/-- The levels of the eight outputs, bit n for OUTn (R126). -/
def outputLevels (s : State) : Byte := bitsByte (outputIds.map fun n => (s.output n).level)

/-- The accepted levels of one axis in the bit positions of the axis polarity byte (R169). -/
def axisLevelsByte (s : State) (a : AxisId) : Byte :=
  bitsByte ([AxisLine.limp, .limn, .slow, .home, .alarm].map fun l => s.accepted (.axis a l))

/-- The general and ESTOP byte of GET_IO: IN0 to IN3 in bits 0 to 3, ESTOP in bit 7 (R169). -/
def generalLevelsByte (s : State) : Byte :=
  bitsByte [s.accepted (.general 0), s.accepted (.general 1), s.accepted (.general 2), s.accepted (.general 3),
    false, false, false, s.estopActive]

/-- The ENA byte of GET_IO (R169). -/
def enaByte (s : State) : Byte := bitsByte (axisIds.map fun a => (s.axis a).ena)

/-- Kind code and body bytes of a report (R172). -/
def reportBodyBytes : ReportBody → Byte × List Byte
  | .restarted c => (1, [resetCauseCode c])
  | .segmentDone a e => (2, BitVec.ofNat 8 a.val :: endRecordBytes e)
  | .triggerFired i a p n => (3, [BitVec.ofNat 8 i.val, BitVec.ofNat 8 a.val] ++ positionBytes p ++ leBytes 2 n)
  | .estopChanged l => (4, [flagByte l])
  | .linkLost t => (5, leBytes 2 t)
  | .inputChanged i l => (6, [BitVec.ofNat 8 i.val, flagByte l])

/-- A report record: the 7-byte header and the body (R172). -/
def reportBytes (r : Report) : List Byte :=
  [r.number, (reportBodyBytes r.body).1] ++ leBytes 4 r.timestamp.toNat ++ [BitVec.ofNat 8 r.lostBefore] ++
    (reportBodyBytes r.body).2

/-- The payload of a POLL reply: the 6-byte summary and the record at the head, if there is one (R149, R172). -/
def pollPayload (s : State) : List Byte :=
  stateCodes s ++ [BitVec.ofNat 8 s.freeSlots, BitVec.ofNat 8 s.reports.records.length] ++
    (match s.reports.records with
      | r :: _ => reportBytes r
      | [] => [])

/-! ### What a master writes (R169 to R171) -/

/-- The flags byte of a segment (R170). -/
def segmentFlags (g : Segment) : Byte :=
  match g.work with
  | .move _ _ _ negative => bitsByte [g.report, negative]
  | .goto _ _ _ => bitsByte [g.report]
  | .run _ _ negative seekSlow => bitsByte [g.report, negative, seekSlow]
  | .home _ _ _ negative zeroAtHome abruptAtHome => bitsByte [g.report, negative, false, zeroAtHome, abruptAtHome]
  | .dwell _ | .join _ _ | .waitInput _ _ _ => bitsByte [g.report]

/-- The six bytes of a segment's parameter area (R170). -/
def parameterArea : Work → List Byte
  | .move count rate profile _ => leBytes 3 count ++ leBytes 2 rate ++ [profileByte profile]
  | .goto target rate profile => positionBytes target ++ leBytes 2 rate ++ [profileByte profile]
  | .run rate profile _ _ => [0, 0, 0] ++ leBytes 2 rate ++ [profileByte profile]
  | .home limit rate profile _ _ _ => leBytes 3 limit ++ leBytes 2 rate ++ [profileByte profile]
  | .dwell time => leBytes 2 time ++ [0, 0, 0, 0]
  | .join token members => [BitVec.ofNat 8 token, members.setWidth 8, 0, 0, 0, 0]
  | .waitInput input wanted timeout =>
    [BitVec.ofNat 8 input.val, flagByte wanted, 0] ++ leBytes 2 timeout ++ [0]

/-- The ten parameter bytes of a QUEUE_SEGMENT for axis `a` (R170). -/
def segmentBytes (a : AxisId) (g : Segment) : List Byte :=
  [BitVec.ofNat 8 a.val, kindCode g.work.kind, g.tag, segmentFlags g] ++ parameterArea g.work

/-- The bytes of a stage list: rate (2), steps (1) each (R169). -/
def stageBytes (l : List Stage) : List Byte := l.flatMap fun x => leBytes 2 x.rate ++ [BitVec.ofNat 8 x.steps]

/-! ### The reply on the line (R157, R167) -/

/-- The frame kind of a reply (R167). -/
def ReplyKind.frameKind : ReplyKind → FrameKind
  | .pollReply => .pollReply
  | .orderReply => .orderReply

/-- Bits 7 to 5 of a reply's control byte: 0, LINK_WAS_LOST, REPORTS_PENDING (R167). -/
def replyFlagBits (reportsPending linkWasLost : Bool) : BitVec 3 :=
  (if linkWasLost then 2 else 0) + (if reportsPending then 1 else 0)

/-- A reply under transmission as a frame: station 0x80 plus the address, the control byte with its flags, the payload
(R157, R167). `Frame.wire` gives its bytes on the line. -/
def Reply.frame (r : Reply) (reportsPending linkWasLost : Bool) : Frame :=
  { station := r.station, control := controlByte (replyFlagBits reportsPending linkWasLost) r.seq r.kind.frameKind
    payload := r.payload }

/-- REPORTS_PENDING as it is set when the transmission begins (R157): in a POLL reply when the payload carries a
record, that is more than the 6-byte summary (R172); in an ORDER reply when the report queue is not empty then. -/
def reportsPendingFlag (r : Reply) (s : State) : Bool :=
  match r.kind with
  | .pollReply => decide (6 < r.payload.length)
  | .orderReply => !s.reports.records.isEmpty

end Sys2Proof.Machine
end

