-- ==== Sys2Proof/Machine/Profiles.lean ====
section
/-! DEFINITION. The profile library's arithmetic: plans (R26 to R31) and stop walks (R32 to R34), and the references to
profiles (R22). -/

namespace Sys2Proof.Machine

/-! ### Tracks -/

/-- Whether a leg has a step after `n` of them have been issued. -/
def Leg.holds (l : Leg) (n : Nat) : Bool :=
  match l.steps with
  | none => true
  | some k => decide (n < k)

/-- A track at its beginning: no step issued. -/
def Track.start (legs : List Leg) : Track := { legs := legs, leg := 0, inLeg := 0 }

/-- The leg of the next step of a track and the track after it (R55): a further step of the same leg, or the first of
the next; `none` after the last step of a counted plan or of a walk. -/
def Track.advance (t : Track) : Option (Leg × Track) :=
  match t.legs[t.leg]? with
  | none => none
  | some l =>
    if l.holds t.inLeg then some (l, { t with inLeg := t.inLeg + 1 })
    else
      match t.legs[t.leg + 1]? with
      | none => none
      | some l' => if l'.holds 0 then some (l', { t with leg := t.leg + 1, inLeg := 1 }) else none

/-! ### Plans -/

/-- The used stages: the profile's stages whose rate is below the target rate, ascending (R26). -/
def usedStages (stages : List Stage) (target : Nat) : List Stage := stages.filter fun x => decide (x.rate < target)

/-- The sum of the step counts (R26: the ramp length L of the used stages). -/
def stepSum (stages : List Stage) : Nat := (stages.map Stage.steps).sum

/-- The first `n` steps of a run of stages, a stage taken whole while the total stays at or under `n`, the last one only
as far as `n` (R29 step 1, R34). -/
def takeSteps : Nat → List Stage → List Stage
  | _, [] => []
  | n, x :: rest =>
    if n = 0 then []
    else if x.steps ≤ n then x :: takeSteps (n - x.steps) rest
    else [{ x with steps := n }]

/-- The legs of a run of stages in one phase (R27). -/
def legsOf (ph : Phase) (stages : List Stage) : List Leg :=
  stages.map fun x => { phase := ph, rate := x.rate, steps := some x.steps }

/-- One leg, left out when it has no steps (R27). -/
def legOf (ph : Phase) (rate n : Nat) : List Leg :=
  if n = 0 then [] else [{ phase := ph, rate := rate, steps := some n }]

/-- The starting rate: the rate of the lowest used stage, or the target rate (R26). -/
def startingRate (used : List Stage) (target : Nat) : Nat :=
  match used with
  | x :: _ => x.rate
  | [] => target

/-- The full plan (R28). -/
def fullPlan (used : List Stage) (target n : Nat) : List Leg :=
  legsOf .accel used ++ legOf .cruise target (n - 2 * stepSum used) ++ legsOf .decel used.reverse

/-- The rate of the stage reached (R29): that of the H-th step, or of the lowest used stage when H is 0. -/
def reachedRate (used up : List Stage) (target : Nat) : Nat :=
  match up.getLast? with
  | some x => x.rate
  | none => startingRate used target

/-- The truncated plan (R29), with H the half of the count. -/
def truncatedPlan (used : List Stage) (target n : Nat) : List Leg :=
  let up := takeSteps (n / 2) used
  legsOf .accel up ++ legOf .peak (reachedRate used up target) (n - 2 * (n / 2)) ++ legsOf .decel up.reverse

/-- The plan of a counted segment (R28, R29). -/
def countedPlan (used : List Stage) (target n : Nat) : List Leg :=
  if 2 * stepSum used ≤ n then fullPlan used target n else truncatedPlan used target n

/-- The plan of a RUN or HOME (R31): the ACCEL legs and an open CRUISE leg. -/
def uncountedPlan (used : List Stage) (target : Nat) : List Leg :=
  legsOf .accel used ++ [{ phase := .cruise, rate := target, steps := none }]

/-- The stages a profile field gives: none when it is absent (R26). -/
def State.stagesOf (s : State) (p : Option ProfileId) : List Stage :=
  match p with
  | some p => s.profile p
  | none => []

/-! ### Stop walks -/

/-- The choice of the stop profile (R30): the segment's own, else the axis configuration's, else none. -/
def stopProfile (g : Segment) (c : AxisConfig) : Option ProfileId :=
  match g.work.profile with
  | some p => some p
  | none => c.stopProfile

/-- The stages of a stop walk from rate `c` (R32): those below `c`, in descending order. -/
def walkStages (stages : List Stage) (c : Nat) : List Stage := (usedStages stages c).reverse

/-- The walk, cut at the segment's last planned step for a counted segment (R34). -/
def walkLegs (stages : List Stage) (c : Nat) (p : Progress) : List Leg :=
  match p.count with
  | some n => legsOf .stopWalk (takeSteps (n - p.stepsTaken) (walkStages stages c))
  | none => legsOf .stopWalk (walkStages stages c)

/-! ### References (R22) -/

/-- Whether a segment in any queue names the profile (R22 case 1, R19). -/
def State.profileQueued (s : State) (p : ProfileId) : Bool :=
  axisIds.any fun a => (s.axis a).queue.any fun g => g.work.profile == some p

/-- Whether an axis is STOPPING on a walk taken from the profile (R22 case 2, R35). -/
def State.profileWalked (s : State) (p : ProfileId) : Bool :=
  axisIds.any fun a =>
    (s.axis a).state == .stopping &&
      (match (s.axis a).progress with
        | some q => q.walkProfile == some p
        | none => false)

/-- Whether a profile is in use (R22). -/
def State.profileInUse (s : State) (p : ProfileId) : Bool := s.profileQueued p || s.profileWalked p

/-- Whether a profile is named for stopping (R22). -/
def State.profileNamedForStopping (s : State) (p : ProfileId) : Bool :=
  axisIds.any fun a => (s.axis a).config.stopProfile == some p

end Sys2Proof.Machine
end

