-- ==== Sys2Proof/Machine/Ends.lean ====
section
/-! DEFINITION. The end of a segment that holds its axis, and what the join unit makes of it: the last end record, the
slot, SEGMENT_DONE (R59, R61), withdrawal and breaks (R102 to R105), and the state the axis is left in (R60). Ends with a
normal cause, which lead on to the next segment, are in Machine/Activation.lean. -/

namespace Sys2Proof.Machine

/-! ### Changing the state of an axis without ending a segment -/

/-- The axis becomes HELD with a held cause (R43). -/
def hold (a : AxisId) (c : HeldCause) (s : State) : State :=
  s.setAxis a { s.axis a with state := .held, heldCause := c, progress := none }

/-- The axis becomes IDLE; its held cause becomes NONE (R43). -/
def becomeIdle (a : AxisId) (s : State) : State :=
  s.setAxis a { s.axis a with state := .idle, heldCause := .none, progress := none }

/-- A flush of a queue outside a segment end (R9): every segment goes, nothing ends. -/
def flushQueue (a : AxisId) (s : State) : State := s.setAxis a { s.axis a with queue := [] }

/-- The emergency stop leaves the axis DISABLED or HELD by its estop_disables, with held cause ESTOP (R60, R83). -/
def leaveByEstop (a : AxisId) (s : State) : State :=
  s.setAxis a { s.axis a with
    state := if (s.axis a).config.estopDisables then .disabled else .held
    heldCause := .stopped .estop
    progress := none }

/-! ### The end of the head segment (R59 steps 1 to 5 and 7) -/

/-- The end record of the head segment `g` of an axis (R61). -/
def endRecordOf (x : Axis) (g : Segment) (rest : List Segment) (cause : Cause) : EndRecord :=
  { tag := g.tag
    kind := g.work.kind
    cause := cause
    stepsTaken := match x.progress with
      | some p => p.stepsTaken
      | none => 0
    endPosition := x.position
    discarded := if x.flushPending then rest.length else 0 }

/-- The head segment of axis `a` ends with `cause` (R59 steps 1 to 5 and 7): the last end record is written, the segment
leaves its queue and the rest is flushed when a flush is pending, SEGMENT_DONE is admitted when the segment's REPORT flag
is set or the cause is not normal, and the progress record is discarded. What becomes of the axis is R60's. -/
def closeSegment (a : AxisId) (cause : Cause) (s : State) : State :=
  match (s.axis a).queue with
  | [] => s
  | g :: rest =>
    let x := s.axis a
    let e := endRecordOf x g rest cause
    let s := s.setAxis a { x with
      queue := if x.flushPending then [] else rest
      lastEnd := some e
      progress := none }
    if g.report || !cause.normal then admitReport (.segmentDone a e) s else s

/-- R60 for every cause that is not normal: STOPPED_BY_ORDER with a flush pending leaves the axis IDLE, ESTOP leaves it
DISABLED or HELD, and every other end leaves it HELD with its cause. -/
def settle (a : AxisId) (cause : Cause) (flushed : Bool) (s : State) : State :=
  if cause = .estop then leaveByEstop a s
  else if cause = .stoppedByOrder ∧ flushed = true then becomeIdle a s
  else hold a (.stopped cause) s

/-! ### The join unit (R97, R102 to R105) -/

/-- The axis is a member of the record (R97). -/
def JoinRecord.member (r : JoinRecord) (a : AxisId) : Bool := r.members.getLsbD a.val

/-- The axis is arrived in the record (R97). -/
def JoinRecord.here (r : JoinRecord) (a : AxisId) : Bool := r.arrived.getLsbD a.val

/-- Whether the axis is WAITING on a JOIN segment. -/
def Axis.waitingOnJoin (x : Axis) : Bool :=
  match x.active with
  | some (g, _) => x.state == .waiting && g.work.kind == .join
  | none => false

/-- A withdrawal (R103): the axis leaves the arrived mask it is in, and a record left empty is freed. -/
def withdraw (a : AxisId) (s : State) : State :=
  { s with joins := s.joins.filterMap fun r =>
      if r.here a then
        if r.arrived &&& ~~~axisBit a = 0 then none else some { r with arrived := r.arrived &&& ~~~axisBit a }
      else some r }

/-- The JOIN of an arrived member of a broken record ends JOIN_BROKEN and its axis is held, with the withdrawal and the
break search that every such end brings (R104 step 2, R105). `search` is that break search. -/
def endBroken (search : AxisId → State → State) (b : AxisId) (s : State) : State :=
  if (s.axis b).waitingOnJoin then
    let flushed := (s.axis b).flushPending
    settle b .joinBroken flushed (search b (withdraw b (closeSegment b .joinBroken s)))
  else s

/-- One record is broken (R104), if it is still open: it is freed, and the JOINs of its arrived members end in ascending
axis order (R105). -/
def breakRecord (search : AxisId → State → State) (token : Nat) (s : State) : State :=
  match s.joins.find? fun r => r.token == token with
  | none => s
  | some r =>
    (axesOf r.arrived).foldl (fun s b => endBroken search b s)
      { s with joins := s.joins.filter fun q => q.token != token }

/-- The break search for axis `a` (R104): every open record in which it is a member and has not arrived is broken. The
order in which several found records are broken is free (notes/assumptions/6.md). The search goes as deep as there are
open records, because each break frees one (R105); `fuel` is that depth. -/
def breakSearch : Nat → AxisId → State → State
  | 0, _, s => s
  | fuel + 1, a, s =>
    let found := (s.joins.filter fun r => r.member a && !r.here a).map JoinRecord.token
    let (order, s) := drawOrder found s
    order.foldl (fun s t => breakRecord (breakSearch fuel) t s) s

/-- R59 step 6 for an end that is no release: the axis is withdrawn, and a cause that breaks is followed by the break
search (R102). -/
def notifyJoins (a : AxisId) (cause : Cause) (s : State) : State :=
  let s := withdraw a s
  if cause.breaks then breakSearch s.joins.length a s else s

/-- The head segment of axis `a` ends with a cause that is not normal: R59 and R60 in order. -/
def endHeld (a : AxisId) (cause : Cause) (s : State) : State :=
  let flushed := (s.axis a).flushPending
  settle a cause flushed (notifyJoins a cause (closeSegment a cause s))

end Sys2Proof.Machine
end

