-- ==== Sys2Proof/Machine/Stops.lean ====
section
/-! DEFINITION. Stop requests (R66 to R70, R75 to R77): what a request of a cause, a mode and a disposition does to an
axis, decided from the axis and the stop profile's stages alone, and carried out with the end that belongs to the cause. -/

namespace Sys2Proof.Machine

/-- What a stop request does to an axis (R66): nothing; the active segment goes on, STOPPING, with a new progress record;
or it ends at the request's event with a cause. -/
inductive StopEffect where
  | nothing
  | walks (p : Progress)
  | ends (p : Progress) (cause : Cause)
  deriving DecidableEq, Repr

/-- A ramped request reaches a RUNNING axis (R67). No stop profile, or an empty walk, ends the segment at this event with
the request's cause (R30, R33); otherwise the walk, its profile and the cause are recorded. -/
def rampedStop (s : State) (x : Axis) (g : Segment) (p : Progress) (cause : Cause) : StopEffect :=
  match stopProfile g x.config with
  | none => .ends p cause
  | some k =>
    match walkLegs (s.profile k) x.currentRate p with
    | [] => .ends p cause
    | l :: ls =>
      .walks { p with walk := some (Track.start (l :: ls)), walkProfile := some k, recordedCause := some cause }

/-- The cause after an abrupt request overtakes a walk (R75): the request's, but a normal one does not replace one that
is not. -/
def overtakenCause (recorded : Option Cause) (cause : Cause) : Cause :=
  match recorded with
  | some r => if cause.normal && !r.normal then r else cause
  | none => cause

/-- The recorded cause after a ramped request reaches a walk (R76): only a normal one is replaced. -/
def rampedCause (recorded : Option Cause) (cause : Cause) : Cause :=
  match recorded with
  | some r => if r.normal then cause else r
  | none => cause

/-- What a stop request does to axis `a` (R66, R67, R69, R70, R75, R76). A FLUSH disposition sets flush pending whatever
the rest does (R66, R77). -/
def stopEffect (s : State) (a : AxisId) (cause : Cause) (mode : StopMode) (flush : Bool) : StopEffect :=
  let x := s.axis a
  match x.active with
  | none => .nothing
  | some (g, p) =>
    let p := { p with flushPending := p.flushPending || flush }
    match x.state, mode with
    | .running, .abrupt => .ends p cause
    | .running, .ramped => rampedStop s x g p cause
    | .stopping, .abrupt => .ends p (overtakenCause p.recordedCause cause)
    | .stopping, .ramped => .walks { p with recordedCause := some (rampedCause p.recordedCause cause) }
    | .waiting, _ => .ends p cause
    | _, _ => .nothing

/-- Carry a stop effect out, ending the segment by `ender`. -/
def applyStop (ender : AxisId → Cause → State → State) (a : AxisId) (e : StopEffect) (s : State) : State :=
  match e with
  | .nothing => s
  | .walks p => s.setAxis a { s.axis a with state := .stopping, progress := some p }
  | .ends p cause => ender a cause (s.setAxis a { s.axis a with progress := some p })

/-- A stop request whose cause is not normal. Every end it brings about has a cause that is not normal, so it holds the
axis and starts nothing (R60, R118). -/
def stopHeld (a : AxisId) (cause : Cause) (mode : StopMode) (flush : Bool) (s : State) : State :=
  applyStop endHeld a (stopEffect s a cause mode flush) s

end Sys2Proof.Machine
end

