-- ==== Sys2Proof/Machine/Triggers.lean ====
section
/-! DEFINITION. The evaluation of a step by the trigger table: the firing set (R116), each firing (R117) and each action
(R119 to R122). -/

namespace Sys2Proof.Machine

/-- Whether a qualifier matches the direction of a step (R116). -/
def Qualifier.matches (q : Qualifier) (d : Direction) : Bool :=
  match q, d with
  | .positive, .positive | .negative, .negative | .either, _ => true
  | .positive, .negative | .negative, .positive => false

/-- Whether a slot fires at a step of axis `a` in direction `d` onto position `p` (R116). -/
def TriggerSlot.firesAt (t : TriggerSlot) (a : AxisId) (d : Direction) (p : Position) : Bool :=
  match t.fields with
  | some f => t.state == .armed && f.axis == a && f.position == p && f.qualifier.matches d
  | none => false

/-- The firing set of a step, in ascending slot order (R116, R117). -/
def firingSet (a : AxisId) (d : Direction) (p : Position) (s : State) : List (Fin 24) :=
  slotIds.filter fun i => (s.trigger i).firesAt a d p

/-- An ARM_SLOT action (R121): a DISARMED or SPENT slot becomes ARMED. -/
def armSlot (m : Fin 24) (s : State) : State :=
  match (s.trigger m).state with
  | .disarmed | .spent => s.setTrigger m { s.trigger m with state := .armed }
  | .free | .armed => s

/-- The action of a firing is applied (R119 to R122). -/
def applyAction (act : Action) (s : State) : State :=
  match act with
  | .outSet n => setLevel n true s
  | .outClear n => setLevel n false s
  | .outPulse n w => startPulse n w s
  | .pwmDuty c d => s.setChannel c ((s.channel c).writeDuty d)
  | .stopAxis k m => stopHeld k .triggerStop m false s
  | .armSlot m => armSlot m s
  | .note => s

/-- A slot after its firing: one more in the fire count, and SPENT if it is ONESHOT (R117 steps 1 and 2). -/
def TriggerSlot.fired (t : TriggerSlot) (f : TriggerFields) : TriggerSlot :=
  { t with
    fireCount := addSaturating 65535 t.fireCount
    state := match f.mode with
      | .oneshot => .spent
      | .rearm => t.state }

/-- One slot of the firing set fires at a step onto position `p` (R117): its count and state, then its report, then its
action. -/
def fireSlot (p : Position) (i : Fin 24) (s : State) : State :=
  match (s.trigger i).fields with
  | none => s
  | some f =>
    let t := (s.trigger i).fired f
    let s := s.setTrigger i t
    let s := if f.report then admitReport (.triggerFired i f.axis p t.fireCount) s else s
    applyAction f.action s

/-- The slots of a firing set fire one by one (R117). -/
def fireAll (p : Position) (set : List (Fin 24)) (s : State) : State := set.foldl (fun s i => fireSlot p i s) s

end Sys2Proof.Machine
end

