-- ==== Sys2Proof/Machine/Steps.lean ====
section
/-! DEFINITION. A step of an axis (R55, R56): which leg it belongs to, the counts it changes, and what follows it at its
own event: the triggers, the SLOW comparison (R79) and a HOME's search limit (R90). -/

namespace Sys2Proof.Machine

/-- The next step of an active segment and the progress record with its place moved on (R55): from the plan while RUNNING,
from the walk while STOPPING. -/
def nextStep (st : AxisState) (p : Progress) : Option (Leg × Progress) :=
  match st with
  | .running => p.plan.advance.map fun lt => (lt.1, { p with plan := lt.2 })
  | .stopping =>
    match p.walk with
    | some w => w.advance.map fun lt => (lt.1, { p with walk := some lt.2 })
    | none => none
  | .disabled | .idle | .waiting | .held => none

/-- What an axis in motion is waiting out (R55, R58, R68): the interval before its next step, which is one second divided
by that step's rate, or the tail interval after its last step, one second divided by that step's rate. -/
inductive Interval where
  | beforeStep (rate : Nat)
  | tail (rate : Nat)
  deriving DecidableEq, Repr

/-- The interval an axis is waiting out, with the rate its length belongs to. -/
def Axis.interval (x : Axis) : Option Interval :=
  match x.active with
  | none => none
  | some (_, p) =>
    match x.state with
    | .running | .stopping =>
      match nextStep x.state p with
      | some (l, _) => some (.beforeStep l.rate)
      | none => some (.tail p.rate)
    | .disabled | .idle | .waiting | .held => none

/-- The position one step on (R56): modulo 2²⁴, so that it wraps between +8,388,607 and −8,388,608. -/
def stepFrom (p : Position) (d : Direction) : Position :=
  match d with
  | .positive => p + 1
  | .negative => p - 1

/-- The direction of a progress record. -/
def Progress.heading (p : Progress) : Direction := p.direction.getD .positive

/-- A step of leg `l` is issued (R56, R41, R42, R63): the position and the steps taken move on, the step's rate is the
current rate, and one more STEP pulse is to be emitted. -/
def issue (a : AxisId) (l : Leg) (p : Progress) (s : State) : State :=
  let x := s.axis a
  s.setAxis a { x with
    position := stepFrom x.position p.heading
    progress := some { p with stepsTaken := addSaturating 8388607 p.stepsTaken, rate := l.rate }
    pulsesWaiting := x.pulsesWaiting + 1 }

/-- Whether the active segment treats SLOW as a zone: a motion kind other than a RUN with SEEK_SLOW (R79, R80). -/
def Work.slowIsZone : Work → Bool
  | .run _ _ _ seekSlow => !seekSlow
  | .move .. | .goto .. | .home .. => true
  | .dwell _ | .join _ _ | .waitInput _ _ _ => false

/-- Whether the SLOW zone stops a RUNNING axis at its current rate (R79). -/
def inSlowZone (a : AxisId) (s : State) : Bool :=
  match (s.axis a).active with
  | some (g, _) =>
    (s.axis a).state == .running && g.work.slowIsZone && s.accepted (.axis a .slow) &&
      decide ((s.axis a).config.slowThreshold ≤ (s.axis a).currentRate)
  | none => false

/-- Whether the latest step made the steps taken of a HOME equal to its search limit, with home detected clear (R90). -/
def atSearchLimit (a : AxisId) (s : State) : Bool :=
  match (s.axis a).active with
  | some (g, p) =>
    match g.work with
    | .home limit _ _ _ _ _ => !p.homeDetected && p.stepsTaken == limit
    | _ => false
  | none => false

/-- The SLOW_ZONE request of a step that met the zone (R79). It acts while the axis is RUNNING only. -/
def zoneRequest (a : AxisId) (s : State) : State :=
  if (s.axis a).state = .running then stopHeld a .slowZone .ramped false s else s

/-- The search-limit request of a step (R90). -/
def limitRequest (met : Bool) (a : AxisId) (s : State) : State :=
  if met then stopHeld a .homeNotFound .abrupt false s else s

/-- What follows a step at its own event: the firing set, fixed at once (R116), fires, and the search limit is taken after
it (R90). Where the step also meets the SLOW zone, the zone's request may be taken before, between or after the two: the
spec fixes no order, and the choice is free (notes/assumptions/7.md). -/
def afterStep (a : AxisId) (d : Direction) (s : State) : State :=
  let p := (s.axis a).position
  let set := firingSet a d p s
  let met := atSearchLimit a s
  if inSlowZone a s then
    if set.isEmpty && !met then zoneRequest a s
    else
      let k := Config.freeOrder s.freeCount % 3
      let s := { s with freeCount := s.freeCount + 1 }
      if k = 0 then limitRequest met a (fireAll p set (zoneRequest a s))
      else if k = 1 then limitRequest met a (zoneRequest a (fireAll p set s))
      else zoneRequest a (limitRequest met a (fireAll p set s))
  else limitRequest met a (fireAll p set s)

/-- The next step of axis `a` is issued, if it has one (R55, R56). -/
def issueStep (a : AxisId) (s : State) : State :=
  match (s.axis a).active with
  | none => s
  | some (_, p) =>
    match nextStep (s.axis a).state p with
    | none => s
    | some (l, q) => afterStep a p.heading (issue a l q s)

end Sys2Proof.Machine
end

