-- ==== Sys2Proof/Machine/Activation.lean ====
section
/-! DEFINITION. Activation (R48 to R54), the arrival and release of a join (R98 to R101), and ends with a normal cause,
which lead on to the next segment (R60). -/

namespace Sys2Proof.Machine

/-- What the activation checks of R49 answer: the segment ends at once; a motion starts; a wait starts, with its deadline
if it has one; or a JOIN arrives. -/
inductive Check where
  | ends (cause : Cause)
  | motion (d : Direction) (count : Option Nat) (legs : List Leg)
  | waits (deadline : Option Uptime)
  | arrives (token : Nat) (members : AxisMask)
  deriving DecidableEq, Repr

/-- The direction of a NEGATIVE flag (R3). -/
def directionOf (negative : Bool) : Direction := if negative then .negative else .positive

/-- Whether the limit in a direction is accepted active (R52 check 3). -/
def limitAhead (a : AxisId) (d : Direction) (s : State) : Bool :=
  match d with
  | .positive => s.accepted (.axis a .limp)
  | .negative => s.accepted (.axis a .limn)

/-- The cause of a limit in a direction (R52, R78). -/
def limitCause : Direction → Cause
  | .positive => .limitPos
  | .negative => .limitNeg

/-- Checks 2 and 3 of R49 for a motion segment (R51, R52), with the plan it starts on. -/
def checkMotion (a : AxisId) (rate : Nat) (profile : Option ProfileId) (d : Direction) (count : Option Nat) (s : State) :
    Check :=
  let c := (s.axis a).config
  let used := usedStages (s.stagesOf profile) rate
  if c.maxRate < rate ∨ c.pullInRate < startingRate used rate then .ends .rateRange
  else if limitAhead a d s then .ends (limitCause d)
  else
    match count with
    | some n => .motion d count (countedPlan used rate n)
    | none => .motion d count (uncountedPlan used rate)

/-- The activation checks of R49, in order (R50 to R53, R86, R91, R93). -/
def activationCheck (a : AxisId) (g : Segment) (s : State) : Check :=
  match g.work with
  | .move count rate profile negative => checkMotion a rate profile (directionOf negative) (some count) s
  | .goto target rate profile =>
    let d := target.toInt - (s.axis a).position.toInt
    if 8388607 < d ∨ d < -8388607 then .ends .positionRange
    else if d = 0 then .ends .complete
    else checkMotion a rate profile (directionOf (decide (d < 0))) (some d.natAbs) s
  | .run rate profile negative seekSlow =>
    match checkMotion a rate profile (directionOf negative) none s with
    | .motion d count legs =>
      if seekSlow && s.accepted (.axis a .slow) then .ends .slowReached else .motion d count legs
    | c => c
  | .home _ rate profile negative _ _ =>
    match checkMotion a rate profile (directionOf negative) none s with
    | .motion d count legs => if s.accepted (.axis a .home) then .ends .homeActive else .motion d count legs
    | c => c
  | .dwell time => .waits (some (s.deadlineIn time))
  | .join token members => .arrives token members
  | .waitInput input wanted timeout =>
    if s.accepted (.general input) = wanted then .ends .complete
    else .waits (if timeout = 0 then none else some (s.deadlineIn timeout))

/-- The logical direction changes (R63): DIR takes the level at once, or at the end of the last of the STEP pulses under
way or yet to begin. -/
def Axis.turn (x : Axis) (d : Direction) : Axis :=
  if x.pulsesOutstanding = 0 then { x with logicalDir := d, shownDir := d }
  else { x with logicalDir := d, dirChanges := x.dirChanges ++ [(x.pulsesOutstanding, d)] }

/-- The progress record a segment starts with (R41, R53). -/
def Progress.initial (d : Option Direction) (count : Option Nat) (legs : List Leg) (deadline : Option Uptime) :
    Progress :=
  { direction := d, plan := Track.start legs, count := count, stepsTaken := 0, walk := none, walkProfile := none
    recordedCause := none, flushPending := false, homeDetected := false, deadline := deadline, rate := 0 }

/-- A motion segment starts (R53): RUNNING, with its first step issued at once. -/
def startMotion (a : AxisId) (d : Direction) (count : Option Nat) (legs : List Leg) (s : State) : State :=
  issueStep a (s.setAxis a { (s.axis a).turn d with
    state := .running, heldCause := .none, progress := some (Progress.initial (some d) count legs none) })

/-- A waiting segment starts (R53): WAITING, with its deadline. -/
def startWait (a : AxisId) (deadline : Option Uptime) (s : State) : State :=
  s.setAxis a { s.axis a with
    state := .waiting, heldCause := .none, progress := some (Progress.initial none none [] deadline) }

/-- What the join unit answers to an arrival (R98). -/
inductive Arrival where
  | waits (s : State)
  | released (s : State) (members : List AxisId)
  | mismatch
  deriving DecidableEq, Repr

/-- Axis `a` arrives at the join `token` with member mask `members` (R98): it opens a record, joins one, completes one,
which is freed (R100 step 1), or is refused as a mismatch (R99). -/
def arrive (a : AxisId) (token : Nat) (members : AxisMask) (s : State) : Arrival :=
  match s.joins.find? fun r => r.token == token with
  | none => .waits { s with joins := s.joins ++ [{ token := token, members := members, arrived := axisBit a }] }
  | some r =>
    if r.members = members then
      if r.arrived ||| axisBit a = r.members then
        .released { s with joins := s.joins.filter fun q => q.token != token } (axesOf members)
      else
        .waits { s with
          joins := s.joins.map fun q =>
            if q.token == token then { q with arrived := q.arrived ||| axisBit a } else q }
    else .mismatch

/-- The head segment of axis `a` is activated (R48 to R54, R98 to R101); with an empty queue the axis becomes IDLE (R60).
The ESTOP and ALARM guard comes first, then the checks. A segment that ends at its activation with a normal cause is
followed by the next one at the same event (R54); the last arrival at a join ends the JOIN of every member in ascending
axis order and then activates each member's next segment, in the same order (R100). Each link removes a segment from a
queue, so `fuel` above the number of queued segments lets every chain run to its end (R54). -/
def activate : Nat → AxisId → State → State
  | 0, _, s => s
  | fuel + 1, a, s =>
    match (s.axis a).queue with
    | [] => becomeIdle a s
    | g :: _ =>
      if s.estopActive then hold a (.stopped .estop) s
      else if s.alarmActive a then hold a (.stopped .driverAlarm) s
      else
        match activationCheck a g s with
        | .ends cause => if cause.normal then activate fuel a (closeSegment a cause s) else endHeld a cause s
        | .motion d count legs => startMotion a d count legs s
        | .waits deadline => startWait a deadline s
        | .arrives token members =>
          match arrive a token members s with
          | .mismatch => endHeld a .joinMismatch s
          | .waits s => startWait a none s
          | .released s members =>
            let going := members.filter fun b => b == a || (s.axis b).waitingOnJoin
            let s := going.foldl (fun s b => closeSegment b .complete s) s
            going.foldl (fun s b => activate fuel b s) s

/-- Activate the head of an axis's queue, with fuel for every chain (R54). -/
def activateHead (a : AxisId) (s : State) : State := activate (s.queued + 1) a s

/-- The active segment of axis `a` ends with any cause: a normal one leads on to the next segment, any other holds the
axis (R59, R60). -/
def endSegment (a : AxisId) (cause : Cause) (s : State) : State :=
  if cause.normal then activateHead a (notifyJoins a cause (closeSegment a cause s)) else endHeld a cause s

/-- A stop request of any cause (R66). HOMED and SLOW_REACHED come this way, since their ends lead on. -/
def stopSegment (a : AxisId) (cause : Cause) (mode : StopMode) (flush : Bool) (s : State) : State :=
  applyStop endSegment a (stopEffect s a cause mode flush) s

end Sys2Proof.Machine
end

