-- ==== Sys2Proof/Machine/Inputs.lean ====
section
/-! DEFINITION. The input block: what each change of an accepted level does to the axis engines and the report queue
(R78 to R84, R87, R88, R94, R137 to R139), and the filter that brings such changes about (R135). -/

namespace Sys2Proof.Machine

/-! ### What an axis engine does with a change -/

/-- A limit of axis `a` on the side `d` becomes active (R78): an abrupt stop, when the axis moves that way. -/
def limitChanged (a : AxisId) (d : Direction) (s : State) : State :=
  match (s.axis a).active with
  | some (_, p) => if p.direction = some d then stopHeld a (limitCause d) .abrupt false s else s
  | none => s

/-- SLOW of axis `a` becomes active: a seek stops with SLOW_REACHED (R80), and a zone stops a RUNNING axis at or above
its threshold with SLOW_ZONE (R79). -/
def slowChanged (a : AxisId) (s : State) : State :=
  match (s.axis a).active with
  | some (g, _) =>
    if (s.axis a).state = .running then
      match g.work with
      | .run _ _ _ true => stopSegment a .slowReached .ramped false s
      | _ => if inSlowZone a s then stopHeld a .slowZone .ramped false s else s
    else s
  | none => s

/-- The home event of axis `a` (R87, R88): home detected is set, the counter is zeroed with ZERO_AT_HOME, and a HOMED
request is taken, abrupt with ABRUPT_AT_HOME. -/
def homeChanged (a : AxisId) (s : State) : State :=
  match (s.axis a).active with
  | some (g, p) =>
    match g.work with
    | .home _ _ _ _ zeroAtHome abruptAtHome =>
      if p.homeDetected then s
      else
        let x := s.axis a
        stopSegment a .homed (if abruptAtHome then .abrupt else .ramped) false
          (s.setAxis a { x with
            progress := some { p with homeDetected := true }
            position := if zeroAtHome then 0 else x.position })
    | _ => s
  | none => s

/-- ALARM of axis `a` becomes active (R81). -/
def alarmChanged (a : AxisId) (s : State) : State :=
  match (s.axis a).state with
  | .running | .stopping | .waiting => stopHeld a .driverAlarm .abrupt false s
  | .idle | .held => hold a (.stopped .driverAlarm) s
  | .disabled => s

/-- ESTOP becomes active, as the engine of axis `a` takes it (R82, R83). -/
def estopAtAxis (a : AxisId) (s : State) : State :=
  match (s.axis a).state with
  | .running | .stopping | .waiting => stopHeld a .estop .abrupt false s
  | .idle | .held => leaveByEstop a s
  | .disabled => s

/-- A general input takes a level, as the engine of axis `a` takes it (R94): a WAIT_INPUT for that level ends COMPLETE. -/
def generalAtAxis (i : Fin 4) (level : Bool) (a : AxisId) (s : State) : State :=
  match (s.axis a).active with
  | some (g, _) =>
    match g.work with
    | .waitInput input wanted _ =>
      if (s.axis a).state = .waiting ∧ input = i ∧ wanted = level then endSegment a .complete s else s
    | _ => s
  | none => s

/-! ### Events with several receivers (R137, notes/assumptions/6.md) -/

/-- A receiver of one event: an axis engine, the report queue or the output block. -/
inductive Receiver where
  | engine (a : AxisId)
  | queue
  | outputs
  deriving DecidableEq, Repr

/-- The receivers of an ESTOP becoming active that it acts on: the engines of the axes that are not DISABLED, and the
report queue (R82, R83, R138). -/
def estopReceivers (s : State) : List Receiver :=
  ((axisIds.filter fun a => (s.axis a).state != .disabled).map Receiver.engine) ++ [.queue]

/-- One receiver takes an ESTOP becoming active. -/
def takeEstop (r : Receiver) (s : State) : State :=
  match r with
  | .engine a => estopAtAxis a s
  | .queue => admitReport (.estopChanged true) s
  | .outputs => s

/-- ESTOP becomes active, its receivers taking it in the order given (R82, R83). -/
def estopInOrder (order : List Receiver) (s : State) : State := order.foldl (fun s r => takeEstop r s) s

/-- Whether axis `a` waits in a WAIT_INPUT for this level of this input. -/
def Axis.waitsFor (x : Axis) (i : Fin 4) (level : Bool) : Bool :=
  match x.active with
  | some (g, _) =>
    match g.work with
    | .waitInput input wanted _ => x.state == .waiting && input == i && wanted == level
    | _ => false
  | none => false

/-- The receivers of a change of a general input that it acts on: the engines whose wait it ends, and the report queue
when the input's report-on-change flag is set (R94, R139). -/
def generalReceivers (i : Fin 4) (level : Bool) (s : State) : List Receiver :=
  ((axisIds.filter fun a => (s.axis a).waitsFor i level).map Receiver.engine) ++
    (if s.inputs.reportOnChange.getLsbD i.val then [.queue] else [])

/-- One receiver takes a change of a general input. -/
def takeGeneral (i : Fin 4) (level : Bool) (r : Receiver) (s : State) : State :=
  match r with
  | .engine a => generalAtAxis i level a s
  | .queue => admitReport (.inputChanged i level) s
  | .outputs => s

/-- A general input takes a level, its receivers taking it in the order given (R94, R139). -/
def generalInOrder (i : Fin 4) (level : Bool) (order : List Receiver) (s : State) : State :=
  order.foldl (fun s r => takeGeneral i level r s) s

/-- The change of an input's accepted level to `level` is handed on (R137). Of the axis inputs only changes to active
act; ESTOP becoming inactive is reported and changes no axis (R84). -/
def handOn (i : InputId) (level : Bool) (s : State) : State :=
  match i with
  | .axis a l =>
    if level then
      match l with
      | .limp => limitChanged a .positive s
      | .limn => limitChanged a .negative s
      | .slow => slowChanged a s
      | .home => homeChanged a s
      | .alarm => alarmChanged a s
    else s
  | .general j =>
    let (order, s) := drawOrder (generalReceivers j level s) s
    generalInOrder j level order s
  | .estop =>
    if level then
      let (order, s) := drawOrder (estopReceivers s) s
      estopInOrder order s
    else admitReport (.estopChanged false) s

/-! ### The filter (R135) -/

/-- The accepted level of an input takes its raw level, and the change is handed on (R135, R137). -/
def acceptRaw (i : InputId) (s : State) : State :=
  let r := s.input i
  handOn i r.raw (s.setInput i { r with accepted := r.raw, pending := none })

/-- The filter acts on a change of the raw level of an input (R135, the table). -/
def filterRaw (i : InputId) (s : State) : State :=
  let r := s.input i
  if r.raw = r.accepted then s.setInput i { r with pending := none }
  else if s.filterTime i = 0 then acceptRaw i s
  else s.setInput i { r with pending := some (s.deadlineIn (s.filterTime i)) }

/-- A pin of an input takes a level (R134, R135). -/
def pinTakes (i : InputId) (high : Bool) (s : State) : State :=
  filterRaw i (s.setInput i { s.input i with pinHigh := high })

/-! ### A change of filter and polarity (R140) -/

/-- Step 1 of R140 for an input whose filter value changed: a pending acceptance is restarted with the new value, which
has been written; with a new value of 0 the raw level is accepted at once. -/
def restartFilter (i : InputId) (s : State) : State :=
  let r := s.input i
  if r.pending.isNone then s
  else if s.filterTime i = 0 then acceptRaw i s
  else s.setInput i { r with pending := some (s.deadlineIn (s.filterTime i)) }

/-- Step 2 of R140 for an input whose polarity changes: the raw level is inverted, which is a raw change. -/
def changePolarity (i : InputId) (activeHigh : Bool) (s : State) : State :=
  filterRaw i (s.setInput i { s.input i with activeHigh := activeHigh })

/-- The inputs that SET_INPUT_CONFIG configures: all but ESTOP (R140). -/
def configurableInputs : List InputId :=
  (axisIds.flatMap fun a => [AxisLine.limp, .limn, .slow, .home, .alarm].map (InputId.axis a)) ++
    axisIds.map InputId.general

/-- R140 steps 1 and 2 for one input. -/
def reconfigure (i : InputId) (filterChanged : Bool) (activeHigh : Bool) (s : State) : State :=
  let s := if filterChanged then restartFilter i s else s
  if (s.input i).activeHigh = activeHigh then s else changePolarity i activeHigh s

/-- The input settings that SET_INPUT_CONFIG carries (R140): for each axis the polarities of its five inputs, the
polarities of IN0 to IN3, the filter values and the report-on-change flags. A polarity is true for active-high. -/
structure InputConfig where
  axisHigh       : Vector (BitVec 5) 4
  generalHigh    : BitVec 4
  axisFilter     : Vector Nat 4
  generalFilter  : Vector Nat 4
  reportOnChange : BitVec 4
  deriving DecidableEq, Repr

/-- The bit of a line in the axis polarity byte (R169). -/
def axisLineBit : AxisLine → Nat
  | .limp => 0 | .limn => 1 | .slow => 2 | .home => 3 | .alarm => 4

/-- The polarity a setting gives to an input; ESTOP stays active-low (R138). -/
def InputConfig.activeHigh (c : InputConfig) : InputId → Bool
  | .axis a l => c.axisHigh[a].getLsbD (axisLineBit l)
  | .general i => c.generalHigh.getLsbD i.val
  | .estop => false

/-- The filter time of an input under a setting (R140); ESTOP stays at 1 ms (R138). -/
def InputConfig.filterTime (c : InputConfig) : InputId → Nat
  | .axis a _ => c.axisFilter[a]
  | .general i => c.generalFilter[i]
  | .estop => 1

/-- Whether a setting, taken in state `s`, changes the accepted level of an input at once: its new filter value is 0, and
its level is waiting in a filter whose value changes, or its inverted raw level differs from the accepted one. -/
def changesAtOnce (c : InputConfig) (s : State) (i : InputId) : Bool :=
  c.filterTime i == 0 &&
    (((s.input i).pending.isSome && s.filterTime i != c.filterTime i) ||
      ((s.input i).activeHigh != c.activeHigh i))

/-- An accepted SET_INPUT_CONFIG (R140): every filter value and flag is replaced, and then each input is treated by steps
1 and 2. Inputs whose accepted level cannot change at this event are treated first, which no other input can see; the
order of the others is free (notes/assumptions/6.md). -/
def applyInputConfig (c : InputConfig) (s : State) : State :=
  let changed := fun i => s.filterTime i != c.filterTime i
  let quiet := configurableInputs.filter fun i => !changesAtOnce c s i
  let loud := configurableInputs.filter fun i => changesAtOnce c s i
  let s1 := { s with inputs := { s.inputs with
    axisFilter := c.axisFilter, generalFilter := c.generalFilter, reportOnChange := c.reportOnChange } }
  let s2 := quiet.foldl (fun s i => reconfigure i (changed i) (c.activeHigh i) s) s1
  let (order, s3) := drawOrder loud s2
  order.foldl (fun s i => reconfigure i (changed i) (c.activeHigh i) s) s3

end Sys2Proof.Machine
end

