-- ==== Sys2Proof/Machine/Resets.lean ====
section
/-! DEFINITION. The reset (R166): its taking, at which every block takes its reset values, and its completion, at which
the straps are read, the inputs sampled and RESTARTED admitted. The three resets differ in their cause alone. -/

namespace Sys2Proof.Machine

/-- An input record as a reset is taken: reset polarity, no pending acceptance, and the level not yet sampled held
inactive (R136, notes/assumptions/15.md). The pin keeps the level the outside gives it. -/
def InputRecord.taken (r : InputRecord) (activeHigh : Bool) : InputRecord :=
  { pinHigh := r.pinHigh, activeHigh := activeHigh, accepted := false, pending := none }

/-- An input record as it is sampled: the accepted level is the raw level (R136). -/
def InputRecord.sampled (r : InputRecord) : InputRecord := { r with accepted := r.raw, pending := none }

/-- Change the five records of an axis alike. -/
def AxisInputs.all (x : AxisInputs) (f : InputRecord → InputRecord) : AxisInputs :=
  { limp := f x.limp, limn := f x.limn, slow := f x.slow, home := f x.home, alarm := f x.alarm }

/-- Change all input records, with what their reset polarity is (R134). -/
def InputBlock.all (b : InputBlock) (f : InputRecord → Bool → InputRecord) : InputBlock :=
  { b with
    axes := #v[b.axes[0].all (f · false), b.axes[1].all (f · false), b.axes[2].all (f · false),
      b.axes[3].all (f · false)]
    general := #v[f b.general[0] true, f b.general[1] true, f b.general[2] true, f b.general[3] true]
    estop := f b.estop false }

/-- The input block as a reset is taken (R136). -/
def InputBlock.taken (b : InputBlock) : InputBlock :=
  { b.all InputRecord.taken with
    axisFilter := Vector.replicate 4 2, generalFilter := Vector.replicate 4 2, reportOnChange := 0 }

/-- The input block samples every pin once (R136). -/
def InputBlock.sampled (b : InputBlock) : InputBlock := b.all fun r _ => r.sampled

/-- A reset is taken (R166): every block takes its reset values, and the part is held in reset. What the outside holds
(pins, straps) and what waits to be taken stays. The latched strap values are read at the completion. -/
def takeReset (cause : ResetCause) (s : State) : State :=
  { axes := Vector.replicate 4 .reset, joins := [], profiles := Vector.replicate 8 []
    triggers := Vector.replicate 24 .reset, outputs := Vector.replicate 8 .reset, pwm := Vector.replicate 2 .reset
    inputs := s.inputs.taken, uptime := 0, reports := .reset
    line := .reset s.line.addressPins s.line.address s.line.speedPins s.line.speed
    resetHeld := some cause, freeCount := s.freeCount, pending := s.pending }

/-- A reset completes, the RESET pin being inactive (R166): the straps are read (R153), the inputs are sampled (R136) and
RESTARTED is admitted with the cause (R152). -/
def completeReset (cause : ResetCause) (s : State) : State :=
  admitReport (.restarted cause)
    { s with
      inputs := s.inputs.sampled
      line := { s.line with address := s.line.addressPins, speed := s.line.speedPins }
      resetHeld := none }

/-- A reset that completes at its taking, the RESET pin not being active (R166). -/
def resetNow (cause : ResetCause) (s : State) : State := completeReset cause (takeReset cause s)

end Sys2Proof.Machine
end

