-- ==== Sys2Proof/Machine/Line.lean ====
section
/-! DEFINITION. The line interface: when frames are taken (R155 to R157, R166), station filtering (R156), supervision
(R162), the replay cache (R158, R159), broadcast (R160), the outcome of an order (R161) and its reply (R157). -/

namespace Sys2Proof.Machine

/-! ### Time in reset -/

/-- The part while it is not held in reset; held, it takes no frames, ticks or input changes and moves no pin (R166). -/
def whenRunning (f : State → State) (s : State) : State := if s.resetHeld.isSome then s else f s

/-! ### The receive and transmit sides -/

/-- The part is transmitting, and every byte it receives is discarded (R157). -/
def State.transmitting (s : State) : Bool :=
  match s.line.transmit with
  | .sending _ _ _ => true
  | .silent | .built _ => false

/-- Write the receive side. -/
def State.setReceive (s : State) (r : ReceiveSide) : State := { s with line := { s.line with receive := r } }

/-- Write the transmit side. -/
def State.setTransmit (s : State) (t : TransmitSide) : State := { s with line := { s.line with transmit := t } }

/-- Write the statistics counters. -/
def State.setStats (s : State) (c : LinkStats) : State := { s with line := { s.line with stats := c } }

/-- An opening byte between frames: a new frame begins (R155). A reply built and not yet begun is abandoned by it, and a
RESTART whose reply is abandoned resets the part, which loses the frame (R157, R166). -/
def beginFrame (s : State) : State :=
  match s.line.transmit with
  | .built r => if r.restarts then resetNow .order s else (s.setTransmit .silent).setReceive .inFrame
  | .silent => s.setReceive .inFrame
  | .sending _ _ _ => s

/-- A complete frame reaches the part, which then acts by `f` (R155, R156). Its receive side is between frames again.
While the part transmits the frame is lost. The command stands for the whole frame: where the receive side is between
frames, the frame's opening byte is taken first (notes/assumptions/4.md). -/
def onFrame (f : State → State) (s : State) : State :=
  if s.resetHeld.isSome || s.transmitting then s
  else
    match s.line.receive with
    | .inFrame => f (s.setReceive .between)
    | .between =>
      let s := beginFrame s
      match s.line.receive with
      | .inFrame => f (s.setReceive .between)
      | .between => s

/-- A frame in progress is abandoned by one of the faults of R155 and counted; between frames nothing is abandoned. -/
def abandonFrame (after : ReceiveSide) (count : LinkStats → LinkStats) (s : State) : State :=
  if s.resetHeld.isSome || s.transmitting then s
  else
    match s.line.receive with
    | .inFrame => (s.setReceive after).setStats (count s.line.stats)
    | .between => s

/-- One more in a statistics counter (R164). -/
def bump (n : Nat) : Nat := addSaturating 65535 n

/-! ### Station filtering and supervision -/

/-- Whom a valid frame is for (R156). -/
inductive Addressee where
  | station
  | broadcast
  | other
  deriving DecidableEq, Repr

/-- Whether the part has a station address: a strap of 1 to 30 (R153). -/
def LineInterface.addressed (l : LineInterface) : Bool := decide (1 ≤ l.address.toNat ∧ l.address.toNat ≤ 30)

/-- The filter by the station byte (R156). -/
def addressee (l : LineInterface) (station : Byte) : Addressee :=
  if station.toNat = 31 then .broadcast
  else if l.addressed && station.toNat == l.address.toNat then .station
  else .other

/-- A supervising frame (R162): it restarts a running supervision, and revives a lost link with the was-lost mark. -/
def supervise (s : State) : State :=
  match s.line.link with
  | .up =>
    if s.line.timeout = 0 then s
    else { s with line := { s.line with timer := some (s.deadlineIn s.line.timeout) } }
  | .lost =>
    { s with line := { s.line with
      link := .up, wasLost := true, timer := some (s.deadlineIn s.line.timeout) } }

/-! ### Replies -/

/-- The station byte of a reply (R157). -/
def LineInterface.replyStation (l : LineInterface) : Byte := 0x80 + l.address.setWidth 8

/-- A reply is built; its transmission begins later (R157). -/
def buildReply (k : ReplyKind) (seq : BitVec 3) (payload : List Byte) (restarts : Bool) (s : State) : State :=
  s.setTransmit (.built
    { station := s.line.replyStation, kind := k, seq := seq, payload := payload, restarts := restarts })

/-! ### Orders -/

/-- The outcome of an order (R161): accepted, with the state it leaves and its result fields; or refused with a code. -/
inductive Verdict where
  | accepted (s : State) (result : List Byte)
  | refused (c : OutcomeCode)
  deriving DecidableEq, Repr

/-- The payload of an ORDER reply: the echoed code, the outcome code, and the result fields when accepted (R157, R167). -/
def replyPayload (code : Byte) : Verdict → List Byte
  | .accepted _ result => [code, outcomeCode .accepted] ++ result
  | .refused c => [code, outcomeCode c]

/-- The state an order leaves: a refused order changes nothing (R161). -/
def Verdict.stateFrom (v : Verdict) (s : State) : State :=
  match v with
  | .accepted t _ => t
  | .refused _ => s

/-- Whether the order was accepted. -/
def Verdict.isAccepted : Verdict → Bool
  | .accepted _ _ => true
  | .refused _ => false

/-- The order decoder carries out an order addressed to the station, and the replay cache takes its sequence and reply
(R159, R161). `restarts` marks RESTART, whose accepted reply is followed by the reset (R166). -/
def executeOrder (code : Byte) (restarts : Bool) (handler : State → Verdict) (seq : BitVec 3) (s : State) : State :=
  let v := handler s
  let t := v.stateFrom s
  let payload := replyPayload code v
  buildReply .orderReply seq payload (restarts && v.isAccepted)
    { t with line := { t.line with cache := some (seq, payload) } }

/-- An ORDER addressed to the station meets the replay cache (R159): the same sequence is answered from the cache and not
executed. -/
def addressedOrder (code : Byte) (restarts : Bool) (handler : State → Verdict) (seq : BitVec 3) (s : State) : State :=
  match s.line.cache with
  | some (q, payload) =>
    if q = seq then buildReply .orderReply seq payload false s else executeOrder code restarts handler seq s
  | none => executeOrder code restarts handler seq s

/-- A valid ORDER frame (R156, R160 to R162). `heard` says whether its order is carried out when it is broadcast. -/
def receiveOrder (code : Byte) (heard restarts : Bool) (handler : State → Verdict) (h : Header) (s : State) : State :=
  onFrame (fun s =>
    match addressee s.line h.station with
    | .station => addressedOrder code restarts handler h.seq (supervise s)
    | .broadcast =>
      if heard then (handler (supervise s)).stateFrom (supervise s) else supervise s
    | .other => s) s

/-- A valid ORDER frame of a known order code (R169). -/
def takeOrder (c : OrderCode) (handler : State → Verdict) (h : Header) (s : State) : State :=
  receiveOrder (orderByte c) (broadcastOrder c) (c == .restart) handler h s

/-- An order with no parameters: any parameter makes the length wrong (R161 step 2). -/
def noParams (params : List Byte) (v : Verdict) : Verdict :=
  match params with
  | [] => v
  | _ => .refused .badLength

/-- An order whose parameters did not pass R161 step 3. -/
def orBadValue {α : Type} (x : Option α) (f : α → Verdict) : Verdict :=
  match x with
  | some a => f a
  | none => .refused .badValue

end Sys2Proof.Machine
end

