-- ==== Sys2Proof/Machine/Operands.lean ====
section
/-! DEFINITION. Every field form of an order's parameters as the order decoder reads it (R168), the segment encoding
(R170) and the trigger encoding (R171). A reader answers `none` where R168, R10, R21, R37, R111 and the other orders' own
rules make the value a BAD_VALUE. -/

namespace Sys2Proof.Machine

/-! ### Single fields (R168) -/

/-- Two bytes, low byte first. -/
def le2 (b0 b1 : Byte) : Nat := b0.toNat + 256 * b1.toNat

/-- Three bytes, low byte first. -/
def le3 (b0 b1 b2 : Byte) : Nat := b0.toNat + 256 * b1.toNat + 65536 * b2.toNat

/-- A position: three bytes, low byte first, every value valid. -/
def readPosition (b0 b1 b2 : Byte) : Position := BitVec.ofNat 24 (le3 b0 b1 b2)

/-- A number below `n`. -/
def readIndex (n : Nat) (b : Byte) : Option (Fin n) := if h : b.toNat < n then some ⟨b.toNat, h⟩ else none

/-- A yes/no, set/clear or level byte: 0 or 1. -/
def readFlag (b : Byte) : Option Bool := if b = 0 then some false else if b = 1 then some true else none

/-- An axis mask: bits 4 to 7 must be 0. -/
def readAxisMask (b : Byte) : Option AxisMask := if b.toNat < 16 then some (b.extractLsb' 0 4) else none

/-- A trigger slot mask: three bytes, low byte first, all 24 bits name a slot. -/
def readSlotMask (b0 b1 b2 : Byte) : SlotMask := BitVec.ofNat 24 (le3 b0 b1 b2)

/-- A rate, 1 to 40,000 (R2, R20, R36). -/
def readRate (b0 b1 : Byte) : Option Nat := if 1 ≤ le2 b0 b1 ∧ le2 b0 b1 ≤ 40000 then some (le2 b0 b1) else none

/-- A count of steps, 1 to 8,388,607 (R2). -/
def readCount (b0 b1 b2 : Byte) : Option Nat :=
  if 1 ≤ le3 b0 b1 b2 ∧ le3 b0 b1 b2 ≤ 8388607 then some (le3 b0 b1 b2) else none

/-- A time or width in ms, 1 to 65,535. -/
def readTime (b0 b1 : Byte) : Option Nat := if 1 ≤ le2 b0 b1 then some (le2 b0 b1) else none

/-- An optional profile byte: 0 to 7, or 0xFF for absent. -/
def readProfile (b : Byte) : Option (Option ProfileId) :=
  if b = 0xFF then some none else (readIndex 8 b).map some

/-- Bytes that belong to no field must be 0 (R168). -/
def zeroBytes (l : List Byte) : Option Unit := if l.all (· == 0) then some () else none

/-- STOP mode and STOP_AXIS mode (R173). -/
def readStopMode (b : Byte) : Option StopMode := if b = 0 then some .ramped else if b = 1 then some .abrupt else none

/-- link_loss_action (R173). -/
def readLinkLoss (b : Byte) : Option LinkLossAction :=
  if b = 0 then some .ramped else if b = 1 then some .abrupt else if b = 2 then some .continue else none

/-- A filter time, 0 to 15 ms (R140). -/
def readFilter (b : Byte) : Option Nat := if b.toNat ≤ 15 then some b.toNat else none

/-- Two bits of a link-loss level of SET_OUTPUT_CONFIG; 3 is no level (R169). -/
def readLossLevel (v : BitVec 2) : Option LossLevel :=
  match v.toNat with
  | 0 => some .keep
  | 1 => some .active
  | 2 => some .inactive
  | _ => none

/-! ### The segment encoding (R170, R3, R10) -/

/-- The flags byte of a segment (R170): bits 5 to 7 must be 0, and a set flag must belong to the kind (R3). `allowed`
is the mask of the bits the kind lists. -/
def readSegmentFlags (allowed b : Byte) : Option Unit := if b &&& ~~~allowed = 0 then some () else none

/-- The segment of a QUEUE_SEGMENT (R170) for axis `a`; `none` for every BAD_VALUE of R10 but the axis number's. -/
def readSegment (a : AxisId) (kind tag flags p0 p1 p2 p3 p4 p5 : Byte) : Option Segment :=
  let report := flags.getLsbD 0
  let negative := flags.getLsbD 1
  match kind.toNat with
  | 1 => do
    readSegmentFlags 0x03 flags
    let count ← readCount p0 p1 p2
    let rate ← readRate p3 p4
    let profile ← readProfile p5
    pure { tag := tag, report := report, work := .move count rate profile negative }
  | 2 => do
    readSegmentFlags 0x01 flags
    let rate ← readRate p3 p4
    let profile ← readProfile p5
    pure { tag := tag, report := report, work := .goto (readPosition p0 p1 p2) rate profile }
  | 3 => do
    readSegmentFlags 0x07 flags
    zeroBytes [p0, p1, p2]
    let rate ← readRate p3 p4
    let profile ← readProfile p5
    pure { tag := tag, report := report, work := .run rate profile negative (flags.getLsbD 2) }
  | 4 => do
    readSegmentFlags 0x1B flags
    let limit ← readCount p0 p1 p2
    let rate ← readRate p3 p4
    let profile ← readProfile p5
    pure { tag := tag, report := report
           work := .home limit rate profile negative (flags.getLsbD 3) (flags.getLsbD 4) }
  | 5 => do
    readSegmentFlags 0x01 flags
    let time ← readTime p0 p1
    zeroBytes [p2, p3, p4, p5]
    pure { tag := tag, report := report, work := .dwell time }
  | 6 => do
    readSegmentFlags 0x01 flags
    if p0.toNat = 0 ∨ 63 < p0.toNat then none
    let members ← readAxisMask p1
    if (axesOf members).length < 2 ∨ a ∉ axesOf members then none
    zeroBytes [p2, p3, p4, p5]
    pure { tag := tag, report := report, work := .join p0.toNat members }
  | 7 => do
    readSegmentFlags 0x01 flags
    let input ← readIndex 4 p0
    let wanted ← readFlag p1
    zeroBytes [p2, p5]
    pure { tag := tag, report := report, work := .waitInput input wanted (le2 p3 p4) }
  | _ => none

/-! ### The trigger encoding (R171, R111) -/

/-- An action code with its three parameter bytes (R171); a byte that belongs to no parameter must be 0. -/
def readAction (code a0 a1 a2 : Byte) : Option Action :=
  match code.toNat with
  | 1 => do
    let n ← readIndex 8 a0
    zeroBytes [a1, a2]
    pure (.outSet n)
  | 2 => do
    let n ← readIndex 8 a0
    zeroBytes [a1, a2]
    pure (.outClear n)
  | 3 => do
    let n ← readIndex 8 a0
    let w ← readTime a1 a2
    pure (.outPulse n w)
  | 4 => do
    let c ← readIndex 2 a0
    pure (.pwmDuty c (le2 a1 a2))
  | 5 => do
    let k ← readIndex 4 a0
    let m ← readStopMode a1
    zeroBytes [a2]
    pure (.stopAxis k m)
  | 6 => do
    let m ← readIndex 24 a0
    zeroBytes [a1, a2]
    pure (.armSlot m)
  | 7 => do
    zeroBytes [a0, a1, a2]
    pure .note
  | _ => none

/-- A qualifier byte (R171). -/
def readQualifier (b : Byte) : Option Qualifier :=
  if b = 0 then some .positive else if b = 1 then some .negative else if b = 2 then some .either else none

/-- A trigger mode byte (R171). -/
def readTriggerMode (b : Byte) : Option TriggerMode :=
  if b = 0 then some .oneshot else if b = 1 then some .rearm else none

/-- The eleven field bytes of a trigger (R171). -/
def readTriggerFields (axis p0 p1 p2 qualifier mode report code a0 a1 a2 : Byte) : Option TriggerFields := do
  let a ← readIndex 4 axis
  let q ← readQualifier qualifier
  let m ← readTriggerMode mode
  let r ← readFlag report
  let act ← readAction code a0 a1 a2
  pure { axis := a, position := readPosition p0 p1 p2, qualifier := q, mode := m, report := r, action := act }

/-! ### Stages and configurations -/

/-- The stages of a DEFINE_PROFILE, three bytes each: rate (2), steps (1) (R169). `none` for a rate or step count out of
range (R21). -/
def readStages : List Byte → Option (List Stage)
  | [] => some []
  | r0 :: r1 :: n :: rest => do
    let rate ← readRate r0 r1
    if n = 0 then none
    let stages ← readStages rest
    pure ({ rate := rate, steps := n.toNat } :: stages)
  | _ => none

/-- Whether the rates rise strictly from stage to stage (R20, R21). -/
def ascending : List Stage → Bool
  | x :: y :: l => decide (x.rate < y.rate) && ascending (y :: l)
  | _ => true

/-- The eleven configuration bytes of SET_AXIS (R169); `none` for every BAD_VALUE of R37 but the axis number's. -/
def readConfig (m0 m1 q0 q1 t0 t1 profile loss disables invert width : Byte) : Option AxisConfig := do
  let maxRate ← readRate m0 m1
  let pullIn ← readRate q0 q1
  let slow ← readRate t0 t1
  let p ← readProfile profile
  let l ← readLinkLoss loss
  let d ← readFlag disables
  let i ← readFlag invert
  if width.toNat < 2 ∨ 100 < width.toNat then none
  pure { maxRate := maxRate, pullInRate := pullIn, slowThreshold := slow, stopProfile := p, linkLossAction := l
         estopDisables := d, directionInvert := i, stepPulseWidth := width.toNat }

end Sys2Proof.Machine
end

