-- ==== Sys2Proof/Machine/AxisOrders.lean ====
section
/-! DEFINITION. The orders of the axis engines: SET_AXIS (R37, R38), GET_AXIS (R39), ENABLE (R44), DISABLE (R45), RESUME
(R46), SET_POSITION (R47), GET_AXIS_STATE (R62), STOP (R73, R74). -/

namespace Sys2Proof.Machine

/-- CONFIG_CONFLICT (R37 step 2). -/
def configConflict (c : AxisConfig) : Bool :=
  decide (c.maxRate < c.pullInRate) || decide (1000000 < 2 * c.stepPulseWidth * c.maxRate)

/-- Whether a profile field names an EMPTY profile (R11, R37 step 4). -/
def namesEmpty (p : Option ProfileId) (s : State) : Bool :=
  match p with
  | some k => (s.profile k).isEmpty
  | none => false

/-- The whole configuration record of an axis is replaced (R38). -/
def setConfig (a : AxisId) (c : AxisConfig) (s : State) : State := s.setAxis a { s.axis a with config := c }

/-- SET_AXIS (R37, R38). -/
def orderSetAxis (params : List Byte) (s : State) : Verdict :=
  match params with
  | [axis, m0, m1, q0, q1, t0, t1, profile, loss, disables, invert, width] =>
    orBadValue (do pure (← readIndex 4 axis, ← readConfig m0 m1 q0 q1 t0 t1 profile loss disables invert width))
      fun v =>
        if configConflict v.2 then .refused .configConflict
        else if (s.axis v.1).busy then .refused .busy
        else if namesEmpty v.2.stopProfile s then .refused .profileEmpty
        else .accepted (setConfig v.1 v.2 s) []
  | _ => .refused .badLength

/-- GET_AXIS (R39). -/
def orderGetAxis (params : List Byte) (s : State) : Verdict :=
  match params with
  | [axis] => orBadValue (readIndex 4 axis) fun a => .accepted s (configBytes (s.axis a).config)
  | _ => .refused .badLength

/-- One axis named by an accepted ENABLE (R44). -/
def enableAxis (a : AxisId) (s : State) : State :=
  if (s.axis a).state = .disabled then
    if s.alarmActive a then hold a (.stopped .driverAlarm) s
    else if (s.axis a).queue.isEmpty then becomeIdle a s
    else hold a .enabled s
  else s

/-- ENABLE (R44). -/
def orderEnable (params : List Byte) (s : State) : Verdict :=
  match params with
  | [mask] =>
    orBadValue (readAxisMask mask) fun m =>
      if s.estopActive then .refused .estopActive
      else
        let t := (axesOf m).foldl (fun s a => enableAxis a s) s
        .accepted t (stateCodes t)
  | _ => .refused .badLength

/-- One axis named by an accepted DISABLE (R45): IDLE or HELD becomes DISABLED, keeping queue and held cause. -/
def disableAxis (a : AxisId) (s : State) : State :=
  match (s.axis a).state with
  | .idle | .held => s.setAxis a { s.axis a with state := .disabled }
  | .disabled | .running | .waiting | .stopping => s

/-- DISABLE (R45). -/
def orderDisable (params : List Byte) (s : State) : Verdict :=
  match params with
  | [mask] =>
    orBadValue (readAxisMask mask) fun m =>
      if (axesOf m).any fun a => (s.axis a).busy then .refused .busy
      else
        let t := (axesOf m).foldl (fun s a => disableAxis a s) s
        .accepted t (stateCodes t)
  | _ => .refused .badLength

/-- One axis named by an accepted RESUME (R46): a HELD axis activates its head, or becomes IDLE with an empty queue. DESIGN
CHOICE: HELD is judged when the axis is treated and not when the order is taken, so a named axis that another named axis's
activation has just held (JOIN_BROKEN, TRIGGER_STOP) is resumed too (notes/assumptions/20.md). -/
def resumeAxis (a : AxisId) (s : State) : State :=
  if (s.axis a).state = .held then
    if (s.axis a).queue.isEmpty then becomeIdle a s
    else activateHead a (s.setAxis a { s.axis a with heldCause := .none })
  else s

/-- The axes named by a RESUME, treated in the order given (R46, notes/assumptions/6.md). -/
def resumeInOrder (order : List AxisId) (s : State) : State := order.foldl (fun s a => resumeAxis a s) s

/-- RESUME (R46). -/
def orderResume (params : List Byte) (s : State) : Verdict :=
  match params with
  | [mask] =>
    orBadValue (readAxisMask mask) fun m =>
      if s.estopActive then .refused .estopActive
      else if (axesOf m).any fun a => (s.axis a).state == .held && s.alarmActive a then .refused .alarmActive
      else
        let (order, s) := drawOrder (axesOf m) s
        let t := resumeInOrder order s
        .accepted t (stateCodes t)
  | _ => .refused .badLength

/-- SET_POSITION (R47): the counter is loaded; the load is not a step. -/
def orderSetPosition (params : List Byte) (s : State) : Verdict :=
  match params with
  | [axis, p0, p1, p2] =>
    orBadValue (readIndex 4 axis) fun a =>
      if (s.axis a).busy then .refused .busy
      else
        .accepted (s.setAxis a { s.axis a with position := readPosition p0 p1 p2 }) (positionBytes (s.axis a).position)
  | _ => .refused .badLength

/-- GET_AXIS_STATE (R62). -/
def orderGetAxisState (params : List Byte) (s : State) : Verdict :=
  match params with
  | [axis] => orBadValue (readIndex 4 axis) fun a => .accepted s (axisStateBytes (s.axis a))
  | _ => .refused .badLength

/-- One axis named by an accepted STOP (R74). -/
def stopAxis (mode : StopMode) (flush : Bool) (a : AxisId) (s : State) : State :=
  match (s.axis a).state with
  | .running | .stopping | .waiting => stopHeld a .stoppedByOrder mode flush s
  | .held => if flush then becomeIdle a (flushQueue a s) else s
  | .idle => s
  | .disabled => if flush then flushQueue a s else s

/-- The axes named by a STOP, taking the request in the order given (R73, R106, notes/assumptions/6.md). -/
def stopInOrder (mode : StopMode) (flush : Bool) (order : List AxisId) (s : State) : State :=
  order.foldl (fun s a => stopAxis mode flush a s) s

/-- STOP (R73). -/
def orderStop (params : List Byte) (s : State) : Verdict :=
  match params with
  | [mask, mode, disposition] =>
    orBadValue (do pure (← readAxisMask mask, ← readStopMode mode, ← readFlag disposition)) fun v =>
      let (order, s) := drawOrder (axesOf v.1) s
      let t := stopInOrder v.2.1 v.2.2 order s
      .accepted t (stateCodes t)
  | _ => .refused .badLength

/-- SET_AXIS as a frame. -/
def execSetAxis (h : Header) (params : List Byte) (s : State) : Host.Outcome State Fault Refusal :=
  .next (takeOrder .setAxis (orderSetAxis params) h s)

/-- GET_AXIS as a frame. -/
def execGetAxis (h : Header) (params : List Byte) (s : State) : Host.Outcome State Fault Refusal :=
  .next (takeOrder .getAxis (orderGetAxis params) h s)

/-- ENABLE as a frame. -/
def execEnable (h : Header) (params : List Byte) (s : State) : Host.Outcome State Fault Refusal :=
  .next (takeOrder .enable (orderEnable params) h s)

/-- DISABLE as a frame. -/
def execDisable (h : Header) (params : List Byte) (s : State) : Host.Outcome State Fault Refusal :=
  .next (takeOrder .disable (orderDisable params) h s)

/-- SET_POSITION as a frame. -/
def execSetPosition (h : Header) (params : List Byte) (s : State) : Host.Outcome State Fault Refusal :=
  .next (takeOrder .setPosition (orderSetPosition params) h s)

/-- GET_AXIS_STATE as a frame. -/
def execGetAxisState (h : Header) (params : List Byte) (s : State) : Host.Outcome State Fault Refusal :=
  .next (takeOrder .getAxisState (orderGetAxisState params) h s)

/-- RESUME as a frame, addressed or broadcast (R160). -/
def execResume (h : Header) (params : List Byte) (s : State) : Host.Outcome State Fault Refusal :=
  .next (takeOrder .resume (orderResume params) h s)

/-- STOP as a frame, addressed or broadcast (R160). -/
def execStop (h : Header) (params : List Byte) (s : State) : Host.Outcome State Fault Refusal :=
  .next (takeOrder .stop (orderStop params) h s)

end Sys2Proof.Machine
end

