-- ==== Sys2Proof/Machine/InputOrders.lean ====
section
/-! DEFINITION. The orders of the input block: SET_INPUT_CONFIG (R140), GET_IO (R141). -/

namespace Sys2Proof.Machine

/-- An axis polarity byte: bits 5 to 7 must be 0 (R169). -/
def readAxisPolarity (b : Byte) : Option (BitVec 5) := if b.toNat < 32 then some (b.extractLsb' 0 5) else none

/-- A byte over IN0 to IN3: bits 4 to 7 must be 0 (R169). -/
def readGeneralBits (b : Byte) : Option (BitVec 4) := if b.toNat < 16 then some (b.extractLsb' 0 4) else none

/-- The fourteen parameter bytes of SET_INPUT_CONFIG (R140, R169). -/
def readInputConfig : List Byte → Option InputConfig
  | [a0, a1, a2, a3, g, f0, f1, f2, f3, g0, g1, g2, g3, r] => do
    pure
      { axisHigh := #v[← readAxisPolarity a0, ← readAxisPolarity a1, ← readAxisPolarity a2, ← readAxisPolarity a3]
        generalHigh := ← readGeneralBits g
        axisFilter := #v[← readFilter f0, ← readFilter f1, ← readFilter f2, ← readFilter f3]
        generalFilter := #v[← readFilter g0, ← readFilter g1, ← readFilter g2, ← readFilter g3]
        reportOnChange := ← readGeneralBits r }
  | _ => none

/-- SET_INPUT_CONFIG (R140). -/
def orderSetInputConfig (params : List Byte) (s : State) : Verdict :=
  if params.length = 14 then orBadValue (readInputConfig params) fun c => .accepted (applyInputConfig c s) []
  else .refused .badLength

/-- GET_IO (R141, R169). -/
def orderGetIo (params : List Byte) (s : State) : Verdict :=
  noParams params (.accepted s ((axisIds.map (axisLevelsByte s)) ++ [generalLevelsByte s, outputLevels s, enaByte s]))

/-- SET_INPUT_CONFIG as a frame. -/
def execSetInputConfig (h : Header) (params : List Byte) (s : State) : Host.Outcome State Fault Refusal :=
  .next (takeOrder .setInputConfig (orderSetInputConfig params) h s)

/-- GET_IO as a frame. -/
def execGetIo (h : Header) (params : List Byte) (s : State) : Host.Outcome State Fault Refusal :=
  .next (takeOrder .getIo (orderGetIo params) h s)

end Sys2Proof.Machine
end

