-- ==== Sys2Proof/Machine/LineEvents.lean ====
section
/-! DEFINITION. The events of the serial line that are no order and no answered poll: frames that are ignored or
abandoned (R155, R156), opening bytes, the start, end and abandonment of a reply (R157), and link loss (R162). An event
that the part's state rules out changes nothing (notes/assumptions/1.md). -/

namespace Sys2Proof.Machine

/-- Whether a valid frame is one that the part ignores (R156, R160). -/
def ignores (l : LineInterface) (station control : Byte) (payload : List Byte) : Bool :=
  match addressee l station with
  | .other => true
  | .broadcast =>
    match controlKind control with
    | .order => !((payload.head?.bind orderOfByte).any broadcastOrder)
    | .poll | .pollReply | .orderReply => true
  | .station =>
    match controlKind control with
    | .poll => decide (1 < payload.length)
    | .order => false
    | .pollReply | .orderReply => true

/-- IGNORED_FRAME (R156): nothing but supervision, when the frame is addressed to the station or broadcast (R162). -/
def execIgnoredFrame (station control : Byte) (payload : List Byte) (s : State) : Host.Outcome State Fault Refusal :=
  .next (onFrame (fun t =>
    if ignores t.line station control payload then
      match addressee t.line station with
      | .station | .broadcast => supervise t
      | .other => t
    else t) s)

/-- CHECK_FAILURE (R156): a complete frame whose check bytes do not match is abandoned and counted. -/
def execCheckFailure (station control : Byte) (payload : List Byte) (checkA checkB : Byte) (s : State) :
    Host.Outcome State Fault Refusal :=
  .next (if checkBytes (Frame.checked ⟨station, control, payload⟩) = (checkA, checkB) then s
  else onFrame (fun t =>
    t.setStats { t.line.stats with checkFailures := bump t.line.stats.checkFailures }) s)

/-- ESCAPE_ERROR (R155): the second byte of an escape is neither of the two, nor an opening byte. -/
def execEscapeError (b : Byte) (s : State) : Host.Outcome State Fault Refusal :=
  .next (if (unescaped b).isSome || b == openingByte then s
  else abandonFrame .between (fun c => { c with escapeErrors := bump c.escapeErrors }) s)

/-- OVERSIZE_FRAME (R155): the length byte is above 60. -/
def execOversizeFrame (len : Byte) (s : State) : Host.Outcome State Fault Refusal :=
  .next (if maxPayload < len.toNat then abandonFrame .between (fun c => { c with oversize := bump c.oversize }) s
  else s)

/-- OPENING_BYTE_ABANDONMENT (R155): the partial frame is counted and a new frame begins. -/
def execOpeningByteAbandonment (s : State) : Host.Outcome State Fault Refusal :=
  .next (abandonFrame .inFrame (fun c => { c with openings := bump c.openings }) s)

/-- GAP_ABANDONMENT (R155): the inter-byte gap inside a frame is over 10 ms. -/
def execGapAbandonment (s : State) : Host.Outcome State Fault Refusal :=
  .next (abandonFrame .between (fun c => { c with gaps := bump c.gaps }) s)

/-- NEW_FRAME_BEGINS (R155): an opening byte between frames; a reply that has not begun is abandoned by it (R157). -/
def execNewFrameBegins (s : State) : Host.Outcome State Fault Refusal :=
  .next (whenRunning (fun s =>
    match s.line.receive with
    | .between => beginFrame s
    | .inFrame => s) s)

/-- REPLY_START (R157, R162): the flags are set, and a reply that carries LINK_WAS_LOST clears the mark. -/
def execReplyStart (s : State) : Host.Outcome State Fault Refusal :=
  .next (whenRunning (fun s =>
    match s.line.transmit with
    | .built r =>
      { s with line := { s.line with
        transmit := .sending r (reportsPendingFlag r s) s.line.wasLost, wasLost := false } }
    | .silent | .sending _ _ _ => s) s)

/-- REPLY_END (R157, R166): the receive side is between frames, and the reply to a RESTART is followed by the reset. -/
def execReplyEnd (s : State) : Host.Outcome State Fault Refusal :=
  .next (whenRunning (fun s =>
    match s.line.transmit with
    | .sending r _ _ => if r.restarts then resetNow .order s else (s.setTransmit .silent).setReceive .between
    | .silent | .built _ => s) s)

/-- REPLY_ABANDONED (R157, R166): an opening byte before the reply has begun. -/
def execReplyAbandoned (s : State) : Host.Outcome State Fault Refusal :=
  .next (whenRunning (fun s =>
    match s.line.transmit, s.line.receive with
    | .built _, .between => beginFrame s
    | _, _ => s) s)

/-! ### Link loss -/

/-- The engine of axis `a` takes the link-loss event (R85). -/
def linkLossAtAxis (a : AxisId) (s : State) : State :=
  match (s.axis a).config.linkLossAction with
  | .ramped => stopHeld a .linkLost .ramped false s
  | .abrupt => stopHeld a .linkLost .abrupt false s
  | .continue => s

/-- The receivers of the link-loss event that it acts on: the engines of busy axes whose action is not CONTINUE (R85), the
output block (R129) and the report queue (R162). -/
def linkLossReceivers (s : State) : List Receiver :=
  ((axisIds.filter fun a => (s.axis a).busy && (s.axis a).config.linkLossAction != .continue).map Receiver.engine) ++
    [.outputs, .queue]

/-- One receiver takes the link-loss event (R162). -/
def takeLinkLoss (r : Receiver) (s : State) : State :=
  match r with
  | .engine a => linkLossAtAxis a s
  | .outputs => outputsAtLoss s
  | .queue => admitReport (.linkLost s.line.timeout) s

/-- The link-loss event, its receivers taking it in the order given (R106, R162). -/
def linkLossInOrder (order : List Receiver) (s : State) : State := order.foldl (fun s r => takeLinkLoss r s) s

/-- The supervision timer expires (R162). -/
def loseLink (s : State) : State :=
  let s := { s with line := { s.line with link := .lost, timer := none } }
  let (order, s) := drawOrder (linkLossReceivers s) s
  linkLossInOrder order s

/-- LINK_LOSS_EVENT (R162): the tick has brought the uptime to the timer's deadline. -/
def execLinkLossEvent (s : State) : Host.Outcome State Fault Refusal :=
  .next (whenRunning (fun s => if s.due s.line.timer then loseLink s else s) s)

end Sys2Proof.Machine
end

