-- ==== Sys2Proof/Machine/LineOrders.lean ====
section
/-! DEFINITION. The orders of the line interface and the time base: IDENTIFY, GET_STATUS (R165), SET_LINK (R163),
GET_LINK_STATS (R164), RESTART (R166), GET_TIME (R143), and UNKNOWN_ORDER (R161). Each order has the decision its owner
takes (`order…`, a verdict) and its meaning as a frame on the line (`exec…`). -/

namespace Sys2Proof.Machine

/-- IDENTIFY (R165, R169). -/
def orderIdentify (params : List Byte) (s : State) : Verdict :=
  noParams params (.accepted s
    [0x4A, 0x01, s.line.address.setWidth 8, s.line.speed.setWidth 8, 4, 48, 8, 24, 32, 8, 2, 4, 60])

/-- GET_STATUS (R165, R169). -/
def orderGetStatus (params : List Byte) (s : State) : Verdict :=
  noParams params (.accepted s
    ((axisIds.flatMap fun a =>
        [axisStateCode (s.axis a).state, heldCauseCode (s.axis a).heldCause, BitVec.ofNat 8 (s.axis a).queue.length]) ++
      [BitVec.ofNat 8 s.freeSlots, BitVec.ofNat 8 s.reports.records.length, flagByte s.estopActive] ++
      leBytes 2 s.line.timeout ++ [flagByte s.reports.attention] ++ leBytes 4 s.uptime.toNat))

/-- The link timeout and attention enable are replaced, and the timer is stopped or restarted (R163). -/
def setLink (t : Nat) (attention : Bool) (s : State) : State :=
  { s with
    line := { s.line with timeout := t, timer := if t = 0 then none else some (s.deadlineIn t) }
    reports := { s.reports with attention := attention } }

/-- A link timeout: 0 or 20 to 60,000 ms (R163). -/
def readLinkTimeout (b0 b1 : Byte) : Option Nat :=
  if le2 b0 b1 = 0 ∨ (20 ≤ le2 b0 b1 ∧ le2 b0 b1 ≤ 60000) then some (le2 b0 b1) else none

/-- SET_LINK (R163). -/
def orderSetLink (params : List Byte) (s : State) : Verdict :=
  match params with
  | [t0, t1, att] =>
    orBadValue (do pure (← readLinkTimeout t0 t1, ← readFlag att)) fun v => .accepted (setLink v.1 v.2 s) []
  | _ => .refused .badLength

/-- The five counters as the GET_LINK_STATS reply gives them (R169). -/
def statsBytes (c : LinkStats) : List Byte :=
  leBytes 2 c.checkFailures ++ leBytes 2 c.escapeErrors ++ leBytes 2 c.oversize ++ leBytes 2 c.gaps ++
    leBytes 2 c.openings

/-- GET_LINK_STATS (R164). -/
def orderGetLinkStats (params : List Byte) (s : State) : Verdict :=
  match params with
  | [clear] =>
    orBadValue (readFlag clear) fun c => .accepted (if c then s.setStats .reset else s) (statsBytes s.line.stats)
  | _ => .refused .badLength

/-- RESTART (R166): accepted in every state; the reset follows its reply. -/
def orderRestart (params : List Byte) (s : State) : Verdict := noParams params (.accepted s [])

/-- GET_TIME (R143). -/
def orderGetTime (params : List Byte) (s : State) : Verdict :=
  noParams params (.accepted s (leBytes 4 s.uptime.toNat))

/-- IDENTIFY as a frame. -/
def execIdentify (h : Header) (params : List Byte) (s : State) : Host.Outcome State Fault Refusal :=
  .next (takeOrder .identify (orderIdentify params) h s)

/-- GET_STATUS as a frame. -/
def execGetStatus (h : Header) (params : List Byte) (s : State) : Host.Outcome State Fault Refusal :=
  .next (takeOrder .getStatus (orderGetStatus params) h s)

/-- SET_LINK as a frame. -/
def execSetLink (h : Header) (params : List Byte) (s : State) : Host.Outcome State Fault Refusal :=
  .next (takeOrder .setLink (orderSetLink params) h s)

/-- GET_LINK_STATS as a frame. -/
def execGetLinkStats (h : Header) (params : List Byte) (s : State) : Host.Outcome State Fault Refusal :=
  .next (takeOrder .getLinkStats (orderGetLinkStats params) h s)

/-- RESTART as a frame. -/
def execRestart (h : Header) (params : List Byte) (s : State) : Host.Outcome State Fault Refusal :=
  .next (takeOrder .restart (orderRestart params) h s)

/-- GET_TIME as a frame. -/
def execGetTime (h : Header) (params : List Byte) (s : State) : Host.Outcome State Fault Refusal :=
  .next (takeOrder .getTime (orderGetTime params) h s)

/-- The code that the reply to an unknown order echoes: its first payload byte, or 0x00 for an empty payload (R161). -/
def echoedCode (payload : List Byte) : Byte := payload.headD 0

/-- Whether a payload begins with no order code of the part (R161 step 1). -/
def unknownPayload (payload : List Byte) : Bool :=
  match payload with
  | [] => true
  | c :: _ => (orderOfByte c).isNone

/-- UNKNOWN_ORDER as a frame: refused, and like every executed order stored in the replay cache (R159, R161); broadcast,
it is ignored (R160). A payload with a known code is no such event and changes nothing (notes/assumptions/1.md). -/
def execUnknownOrder (h : Header) (payload : List Byte) (s : State) : Host.Outcome State Fault Refusal :=
  .next (if unknownPayload payload then
    receiveOrder (echoedCode payload) false false (fun _ => .refused .unknownOrder) h s
  else s)

end Sys2Proof.Machine
end

