-- ==== Sys2Proof/Machine/OutputOrders.lean ====
section
/-! DEFINITION. The orders of the output block: SET_OUTPUTS (R126), PULSE_OUTPUT (R127), SET_OUTPUT_CONFIG (R125),
SET_PWM (R131), GET_PWM (R133). -/

namespace Sys2Proof.Machine

/-- The outputs a mask names, in ascending order (00 section 5). -/
def outputsOf (m : Byte) : List (Fin 8) := outputIds.filter fun n => m.getLsbD n.val

/-- SET_OUTPUTS (R126). -/
def orderSetOutputs (params : List Byte) (s : State) : Verdict :=
  match params with
  | [mask, levels] =>
    if levels &&& ~~~mask = 0 then
      let t := (outputsOf mask).foldl (fun s n => setLevel n (levels.getLsbD n.val) s) s
      .accepted t [outputLevels t]
    else .refused .badValue
  | _ => .refused .badLength

/-- PULSE_OUTPUT (R127). -/
def orderPulseOutput (params : List Byte) (s : State) : Verdict :=
  match params with
  | [output, w0, w1] =>
    orBadValue (do pure (← readIndex 8 output, ← readTime w0 w1)) fun v =>
      .accepted (startPulse v.1 v.2 s) [flagByte (s.output v.1).deadline.isSome]
  | _ => .refused .badLength

/-- The two bits of OUTn in the link-loss levels of SET_OUTPUT_CONFIG (R169). -/
def lossLevelOf (l0 l1 : Byte) (n : Fin 8) : Option LossLevel :=
  readLossLevel ((if n.val < 4 then l0 else l1).extractLsb' (2 * (n.val % 4)) 2)

/-- An accepted SET_OUTPUT_CONFIG (R125): polarities, link-loss levels and link-loss behaviours are replaced; levels,
timers and channels stay. -/
def applyOutputConfig (polarity l0 l1 pwm : Byte) (s : State) : State :=
  let s := outputIds.foldl (fun s n =>
    s.setOutput n { s.output n with
      activeLow := polarity.getLsbD n.val, lossLevel := (lossLevelOf l0 l1 n).getD .keep }) s
  [0, 1].foldl (fun s (c : Fin 2) => s.setChannel c { s.channel c with offOnLoss := pwm.getLsbD c.val }) s

/-- SET_OUTPUT_CONFIG (R125). -/
def orderSetOutputConfig (params : List Byte) (s : State) : Verdict :=
  match params with
  | [polarity, l0, l1, pwm] =>
    if (outputIds.all fun n => (lossLevelOf l0 l1 n).isSome) && decide (pwm.toNat < 4) then
      .accepted (applyOutputConfig polarity l0 l1 pwm s) []
    else .refused .badValue
  | _ => .refused .badLength

/-- The period and duty of a SET_PWM (R131): a period of at least 20 and a duty of at most the period. -/
def readPwmSetting (p0 p1 d0 d1 : Byte) : Option PwmSetting :=
  if le2 p0 p1 < 20 ∨ le2 p0 p1 < le2 d0 d1 then none else some { period := le2 p0 p1, duty := le2 d0 d1 }

/-- A channel after an accepted SET_PWM (R131). -/
def PwmChannel.set (c : PwmChannel) (enable : Bool) (r : PwmSetting) : PwmChannel :=
  if enable then c.enableWith r else if c.enabled then c.disabled else c

/-- SET_PWM (R131). -/
def orderSetPwm (params : List Byte) (s : State) : Verdict :=
  match params with
  | [channel, enable, p0, p1, d0, d1] =>
    orBadValue (do pure (← readIndex 2 channel, ← readFlag enable, ← readPwmSetting p0 p1 d0 d1)) fun v =>
      .accepted (s.setChannel v.1 ((s.channel v.1).set v.2.1 v.2.2)) []
  | _ => .refused .badLength

/-- A period and a duty, two bytes each (R169). -/
def pwmBytes (r : PwmSetting) : List Byte := leBytes 2 r.period ++ leBytes 2 r.duty

/-- GET_PWM (R133). The spec does not state the four bytes of a pending record that is absent: they are free
(notes/assumptions/8.md). -/
def orderGetPwm (params : List Byte) (s : State) : Verdict :=
  match params with
  | [channel] =>
    orBadValue (readIndex 2 channel) fun c =>
      let x := s.channel c
      match x.pending with
      | some r => .accepted s ([flagByte x.enabled] ++ pwmBytes x.active ++ [1] ++ pwmBytes r)
      | none =>
        let k := s.freeCount
        .accepted { s with freeCount := k + 4 }
          ([flagByte x.enabled] ++ pwmBytes x.active ++
            [0, Config.freeByte k, Config.freeByte (k + 1), Config.freeByte (k + 2), Config.freeByte (k + 3)])
  | _ => .refused .badLength

/-- SET_OUTPUTS as a frame, addressed or broadcast (R160). -/
def execSetOutputs (h : Header) (params : List Byte) (s : State) : Host.Outcome State Fault Refusal :=
  .next (takeOrder .setOutputs (orderSetOutputs params) h s)

/-- PULSE_OUTPUT as a frame. -/
def execPulseOutput (h : Header) (params : List Byte) (s : State) : Host.Outcome State Fault Refusal :=
  .next (takeOrder .pulseOutput (orderPulseOutput params) h s)

/-- SET_OUTPUT_CONFIG as a frame. -/
def execSetOutputConfig (h : Header) (params : List Byte) (s : State) : Host.Outcome State Fault Refusal :=
  .next (takeOrder .setOutputConfig (orderSetOutputConfig params) h s)

/-- SET_PWM as a frame. -/
def execSetPwm (h : Header) (params : List Byte) (s : State) : Host.Outcome State Fault Refusal :=
  .next (takeOrder .setPwm (orderSetPwm params) h s)

/-- GET_PWM as a frame. -/
def execGetPwm (h : Header) (params : List Byte) (s : State) : Host.Outcome State Fault Refusal :=
  .next (takeOrder .getPwm (orderGetPwm params) h s)

end Sys2Proof.Machine
end

