-- ==== Sys2Proof/Machine/ProfileOrders.lean ====
section
/-! DEFINITION. The orders of the profile library: DEFINE_PROFILE (R21, R23), READ_PROFILE (R25), DROP_PROFILE (R24). -/

namespace Sys2Proof.Machine

/-- The stages of a DEFINE_PROFILE with declared count `c` (R21); `none` for every BAD_VALUE but the profile number's. -/
def readStageList (c : Byte) (bytes : List Byte) : Option (List Stage) := do
  if c = 0 ∨ 16 < c.toNat then none
  let stages ← readStages bytes
  if ascending stages then some stages else none

/-- DEFINE_PROFILE (R21, R23). A declared count above 19 would need more than 60 payload bytes and is a BAD_LENGTH
(R168). -/
def orderDefineProfile (params : List Byte) (s : State) : Verdict :=
  match params with
  | n :: c :: bytes =>
    if bytes.length ≠ 3 * c.toNat ∨ 19 < c.toNat then .refused .badLength
    else
      orBadValue (do pure (← readIndex 8 n, ← readStageList c bytes)) fun v =>
        if s.profileInUse v.1 then .refused .profileInUse
        else .accepted (s.setProfile v.1 v.2) ([c] ++ leBytes 2 (stepSum v.2))
  | _ => .refused .badLength

/-- READ_PROFILE (R25). -/
def orderReadProfile (params : List Byte) (s : State) : Verdict :=
  match params with
  | [n] =>
    orBadValue (readIndex 8 n) fun p =>
      .accepted s ([profileStateCode (s.profile p), BitVec.ofNat 8 (s.profile p).length] ++ stageBytes (s.profile p))
  | _ => .refused .badLength

/-- DROP_PROFILE (R24). -/
def orderDropProfile (params : List Byte) (s : State) : Verdict :=
  match params with
  | [n] =>
    orBadValue (readIndex 8 n) fun p =>
      if s.profileInUse p || s.profileNamedForStopping p then .refused .profileInUse
      else .accepted (s.setProfile p []) [profileStateCode (s.profile p)]
  | _ => .refused .badLength

/-- DEFINE_PROFILE as a frame. -/
def execDefineProfile (h : Header) (params : List Byte) (s : State) : Host.Outcome State Fault Refusal :=
  .next (takeOrder .defineProfile (orderDefineProfile params) h s)

/-- READ_PROFILE as a frame. -/
def execReadProfile (h : Header) (params : List Byte) (s : State) : Host.Outcome State Fault Refusal :=
  .next (takeOrder .readProfile (orderReadProfile params) h s)

/-- DROP_PROFILE as a frame. -/
def execDropProfile (h : Header) (params : List Byte) (s : State) : Host.Outcome State Fault Refusal :=
  .next (takeOrder .dropProfile (orderDropProfile params) h s)

end Sys2Proof.Machine
end

