-- ==== Sys2Proof/Machine/ReportOrders.lean ====
section
/-! DEFINITION. The report queue's side of the line: DISCARD_REPORTS (R150) and POLL (R148, R149). -/

namespace Sys2Proof.Machine

/-- Every record is removed and the dropped count cleared; the next number is kept (R150). -/
def discardReports (s : State) : State := { s with reports := { s.reports with records := [], dropped := 0 } }

/-- DISCARD_REPORTS (R150). -/
def orderDiscardReports (params : List Byte) (s : State) : Verdict :=
  noParams params (.accepted (discardReports s)
    [BitVec.ofNat 8 s.reports.records.length, BitVec.ofNat 8 s.reports.dropped])

/-- DISCARD_REPORTS as a frame. -/
def execDiscardReports (h : Header) (params : List Byte) (s : State) : Host.Outcome State Fault Refusal :=
  .next (takeOrder .discardReports (orderDiscardReports params) h s)

/-- The report queue looks at an acknowledgement (R148): the head is removed when its number is the one named. -/
def acknowledge (ack : Option Byte) (s : State) : State :=
  match ack, s.reports.records with
  | some n, r :: rest => if r.number = n then { s with reports := { s.reports with records := rest } } else s
  | _, _ => s

/-- A POLL handed to the report queue: the acknowledgement, then the reply (R148, R149, R157). -/
def answerPoll (ack : Option Byte) (s : State) : State :=
  let s := acknowledge ack s
  buildReply .pollReply 0 (pollPayload s) false s

/-- POLL as a frame (R156): addressed it is answered; a broadcast POLL is ignored but supervises (R160). -/
def execPoll (h : Header) (ack : Option Byte) (s : State) : Host.Outcome State Fault Refusal :=
  .next (onFrame (fun s =>
    match addressee s.line h.station with
    | .station => answerPoll ack (supervise s)
    | .broadcast => supervise s
    | .other => s) s)

end Sys2Proof.Machine
end

