-- ==== Sys2Proof/Machine/SegmentOrders.lean ====
section
/-! DEFINITION. The orders of the segment pool: QUEUE_SEGMENT (R7, R10 to R14), FLUSH_QUEUE (R15, R16), PEEK_QUEUE
(R17). -/

namespace Sys2Proof.Machine

/-- A segment is appended at the tail of an axis's queue (R7). -/
def appendSegment (a : AxisId) (g : Segment) (s : State) : State :=
  s.setAxis a { s.axis a with queue := (s.axis a).queue ++ [g] }

/-- QUEUE_SEGMENT (R10 to R14): the reply shows the queue and the free slots right after the append (R12); on an IDLE
axis the segment is then activated (R13). -/
def orderQueueSegment (params : List Byte) (s : State) : Verdict :=
  match params with
  | [axis, kind, tag, flags, p0, p1, p2, p3, p4, p5] =>
    orBadValue (do
        let a ← readIndex 4 axis
        pure (a, ← readSegment a kind tag flags p0 p1 p2 p3 p4 p5)) fun v =>
      if namesEmpty v.2.work.profile s then .refused .profileEmpty
      else if s.freeSlots = 0 then .refused .poolFull
      else
        let t := appendSegment v.1 v.2 s
        .accepted (if (s.axis v.1).state = .idle then activateHead v.1 t else t)
          [BitVec.ofNat 8 (t.axis v.1).queue.length, BitVec.ofNat 8 t.freeSlots]
  | _ => .refused .badLength

/-- One axis named by an accepted FLUSH_QUEUE (R16): HELD becomes IDLE with held cause NONE; IDLE and DISABLED stay. -/
def flushAxis (a : AxisId) (s : State) : State :=
  match (s.axis a).state with
  | .held => becomeIdle a (flushQueue a s)
  | .idle | .disabled | .running | .waiting | .stopping => flushQueue a s

/-- FLUSH_QUEUE (R15, R16). -/
def orderFlushQueue (params : List Byte) (s : State) : Verdict :=
  match params with
  | [mask] =>
    orBadValue (readAxisMask mask) fun m =>
      if (axesOf m).any fun a => (s.axis a).busy then .refused .busy
      else
        .accepted ((axesOf m).foldl (fun s a => flushAxis a s) s)
          (axisIds.map fun a => if m.getLsbD a.val then BitVec.ofNat 8 (s.axis a).queue.length else 0)
  | _ => .refused .badLength

/-- The entries of a PEEK_QUEUE reply from a start index (R17): at most 20, tag and kind each. -/
def peekEntries (q : List Segment) (start : Nat) : List Byte :=
  ((q.drop start).take 20).flatMap fun g => [g.tag, kindCode g.work.kind]

/-- PEEK_QUEUE (R17). -/
def orderPeekQueue (params : List Byte) (s : State) : Verdict :=
  match params with
  | [axis, start] =>
    orBadValue (readIndex 4 axis) fun a =>
      let q := (s.axis a).queue
      .accepted s
        ([BitVec.ofNat 8 q.length, BitVec.ofNat 8 (min 20 (q.length - start.toNat)), start] ++
          peekEntries q start.toNat)
  | _ => .refused .badLength

/-- QUEUE_SEGMENT as a frame. -/
def execQueueSegment (h : Header) (params : List Byte) (s : State) : Host.Outcome State Fault Refusal :=
  .next (takeOrder .queueSegment (orderQueueSegment params) h s)

/-- FLUSH_QUEUE as a frame. -/
def execFlushQueue (h : Header) (params : List Byte) (s : State) : Host.Outcome State Fault Refusal :=
  .next (takeOrder .flushQueue (orderFlushQueue params) h s)

/-- PEEK_QUEUE as a frame. -/
def execPeekQueue (h : Header) (params : List Byte) (s : State) : Host.Outcome State Fault Refusal :=
  .next (takeOrder .peekQueue (orderPeekQueue params) h s)

end Sys2Proof.Machine
end

