-- ==== Sys2Proof/Machine/TimeEvents.lean ====
section
/-! DEFINITION. The resets (R166), the tick (R142), the expiries of the part's timers, the steps and STEP pulses, and the
changes of its input pins. An expiry that is not due, or whose timer does not run, changes nothing
(notes/assumptions/1.md and 3.md). -/

namespace Sys2Proof.Machine

/-! ### Resets -/

/-- POWER_ON (R166): the reset completes at once unless the RESET pin is active. -/
def execPowerOn (resetPinActive : Bool) (s : State) : Host.Outcome State Fault Refusal :=
  .next (if resetPinActive then takeReset .power s else resetNow .power s)

/-- RESET_PIN (R166): the pin becomes active while the part is powered, and holds it in reset. -/
def execResetPin (s : State) : Host.Outcome State Fault Refusal := .next (whenRunning (takeReset .pin) s)

/-- RESET_COMPLETE (R166): the RESET pin becomes inactive. -/
def execResetComplete (s : State) : Host.Outcome State Fault Refusal :=
  .next (match s.resetHeld with
  | some c => completeReset c s
  | none => s)

/-! ### The tick and the deadlines -/

/-- TICK (R142). -/
def execTick (s : State) : Host.Outcome State Fault Refusal :=
  .next (whenRunning (fun s => { s with uptime := s.uptime + 1 }) s)

/-- Whether axis `a` is WAITING on a segment of kind `k` whose deadline the latest tick has reached. -/
def waitDue (k : Kind) (a : AxisId) (s : State) : Bool :=
  match (s.axis a).active with
  | some (g, p) => (s.axis a).state == .waiting && g.work.kind == k && s.due p.deadline
  | none => false

/-- DWELL_END (R91). -/
def execDwellEnd (a : AxisId) (s : State) : Host.Outcome State Fault Refusal :=
  .next (whenRunning (fun s => if waitDue .dwell a s then endSegment a .complete s else s) s)

/-- INPUT_TIMEOUT (R95). -/
def execInputTimeout (a : AxisId) (s : State) : Host.Outcome State Fault Refusal :=
  .next (whenRunning (fun s => if waitDue .waitInput a s then endHeld a .inputTimeout s else s) s)

/-- PULSE_END (R127). -/
def execPulseEnd (n : Fin 8) (s : State) : Host.Outcome State Fault Refusal :=
  .next (whenRunning (fun s => if s.due (s.output n).deadline then setLevel n false s else s) s)

/-- FILTER_ACCEPTANCE (R135). -/
def execFilterAcceptance (i : InputId) (s : State) : Host.Outcome State Fault Refusal :=
  .next (whenRunning (fun s => if s.due (s.input i).pending then acceptRaw i s else s) s)

/-! ### Pins -/

/-- A pin takes a level while the part is held in reset: only the outside changes (R166). -/
def pinMovesInReset (p : PinId) (high : Bool) (s : State) : State :=
  match p with
  | .input i => s.setInput i { s.input i with pinHigh := high }
  | .addressStrap _ | .speedStrap _ => s

/-- A strap pin takes a level; the running part keeps the value it has read (R153). -/
def setStrap (p : PinId) (high : Bool) (s : State) : State :=
  match p with
  | .input _ => s
  | .addressStrap b =>
    { s with line := { s.line with
      addressPins := if high then s.line.addressPins ||| BitVec.twoPow 5 b.val
        else s.line.addressPins &&& ~~~BitVec.twoPow 5 b.val } }
  | .speedStrap b =>
    { s with line := { s.line with
      speedPins := if high then s.line.speedPins ||| BitVec.twoPow 2 b.val
        else s.line.speedPins &&& ~~~BitVec.twoPow 2 b.val } }

/-- RAW_CHANGE (R135): a pin that takes the level it has changes nothing. A change of a strap is held for the next reset
(R153). -/
def execRawChange (p : PinId) (high : Bool) (s : State) : Host.Outcome State Fault Refusal :=
  .next (match p with
  | .input i =>
    if (s.input i).pinHigh = high then s
    else if s.resetHeld.isSome then pinMovesInReset p high s
    else pinTakes i high s
  | .addressStrap _ | .speedStrap _ => setStrap p high s)

/-! ### Steps -/

/-- STEP_ISSUE (R55, R56, R68). -/
def execStepIssue (a : AxisId) (s : State) : Host.Outcome State Fault Refusal := .next (whenRunning (issueStep a) s)

/-- Whether the axis is in `state` and waits out the tail interval after its last step (R58, R68). -/
def inTail (st : AxisState) (a : AxisId) (s : State) : Bool :=
  (s.axis a).state == st &&
    (match (s.axis a).interval with
      | some (.tail _) => true
      | some (.beforeStep _) | none => false)

/-- TAIL_INTERVAL_EXPIRY (R58): the segment ends COMPLETE. -/
def execTailIntervalExpiry (a : AxisId) (s : State) : Host.Outcome State Fault Refusal :=
  .next (whenRunning (fun s => if inTail .running a s then endSegment a .complete s else s) s)

/-- The recorded cause of a STOPPING axis (R41). -/
def recordedCauseOf (x : Axis) : Option Cause :=
  match x.progress with
  | some p => p.recordedCause
  | none => none

/-- STOP_WALK_END (R68): the segment ends with the recorded cause as it then stands. -/
def execStopWalkEnd (a : AxisId) (s : State) : Host.Outcome State Fault Refusal :=
  .next (whenRunning (fun s =>
    if inTail .stopping a s then
      match recordedCauseOf (s.axis a) with
      | some c => endSegment a c s
      | none => s
    else s) s)

/-! ### STEP pulses (R63) -/

/-- A pulse begins. -/
def Axis.pulseStart (x : Axis) : Axis :=
  if !x.stepActive && decide (0 < x.pulsesWaiting) then
    { x with stepActive := true, pulsesWaiting := x.pulsesWaiting - 1 }
  else x

/-- The direction DIR shows after one more pulse end: the last of the changes that waited for no further one. -/
def dirAfterPulse (shown : Direction) (changes : List (Nat × Direction)) : Direction :=
  ((changes.filter fun c => decide (c.1 ≤ 1)).getLast?.map Prod.snd).getD shown

/-- A pulse ends, and a DIR level that waited for it is taken. -/
def Axis.pulseEnd (x : Axis) : Axis :=
  if x.stepActive then
    { x with
      stepActive := false
      shownDir := dirAfterPulse x.shownDir x.dirChanges
      dirChanges := (x.dirChanges.filter fun c => decide (1 < c.1)).map fun c => (c.1 - 1, c.2) }
  else x

/-- STEP_PULSE_START (R63). -/
def execStepPulseStart (a : AxisId) (s : State) : Host.Outcome State Fault Refusal :=
  .next (whenRunning (fun s => s.setAxis a (s.axis a).pulseStart) s)

/-- STEP_PULSE_END (R63). -/
def execStepPulseEnd (a : AxisId) (s : State) : Host.Outcome State Fault Refusal :=
  .next (whenRunning (fun s => s.setAxis a (s.axis a).pulseEnd) s)

/-! ### PWM (R130) -/

/-- PERIOD_BOUNDARY (R130): on an enabled channel. -/
def execPeriodBoundary (c : Fin 2) (s : State) : Host.Outcome State Fault Refusal :=
  .next (whenRunning (fun s =>
    if (s.channel c).enabled then s.setChannel c (s.channel c).boundary else s) s)

/-- PWM_DUTY_END (R130): on an enabled channel whose duty is below its period. -/
def execPwmDutyEnd (c : Fin 2) (s : State) : Host.Outcome State Fault Refusal :=
  .next (whenRunning (fun s =>
    let x := s.channel c
    if x.enabled && decide (x.active.duty < x.active.period) then s.setChannel c { x with pinActive := false } else s) s)

end Sys2Proof.Machine
end

