-- ==== Sys2Proof/Machine/TriggerOrders.lean ====
section
/-! DEFINITION. The orders of the trigger table: SET_TRIGGER (R111), ARM_TRIGGERS (R112), DISARM_TRIGGERS (R113),
CLEAR_TRIGGERS (R114), READ_TRIGGER (R115). -/

namespace Sys2Proof.Machine

/-- A slot right after SET_TRIGGER (R111): the new fields, fire count 0, ARMED or DISARMED by arm-now. -/
def TriggerSlot.written (f : TriggerFields) (armNow : Bool) : TriggerSlot :=
  { state := if armNow then .armed else .disarmed, fields := some f, fireCount := 0 }

/-- SET_TRIGGER (R111). -/
def orderSetTrigger (params : List Byte) (s : State) : Verdict :=
  match params with
  | [slot, axis, p0, p1, p2, qualifier, mode, report, code, a0, a1, a2, armNow] =>
    orBadValue (do
        pure (← readIndex 24 slot, ← readTriggerFields axis p0 p1 p2 qualifier mode report code a0 a1 a2,
          ← readFlag armNow)) fun v =>
      if (s.trigger v.1).state = .armed then .refused .triggerArmed
      else
        .accepted (s.setTrigger v.1 (.written v.2.1 v.2.2)) [slotStateCode (TriggerSlot.written v.2.1 v.2.2).state]
  | _ => .refused .badLength

/-- The state of a slot that ARM_TRIGGERS names (R112). -/
def armed : SlotState → SlotState
  | .disarmed | .spent | .armed => .armed
  | .free => .free

/-- The state of a slot that DISARM_TRIGGERS names (R113). -/
def disarmed : SlotState → SlotState
  | .armed => .disarmed
  | .free => .free
  | .disarmed => .disarmed
  | .spent => .spent

/-- Change the state of every named slot, keeping fields and fire count. -/
def changeSlots (f : SlotState → SlotState) (m : SlotMask) (s : State) : State :=
  (slotsOf m).foldl (fun s i => s.setTrigger i { s.trigger i with state := f (s.trigger i).state }) s

/-- The three bytes of a slot mask (R168). -/
def slotMaskBytes (m : SlotMask) : List Byte := leBytes 3 m.toNat

/-- ARM_TRIGGERS (R112). -/
def orderArmTriggers (params : List Byte) (s : State) : Verdict :=
  match params with
  | [m0, m1, m2] =>
    let m := readSlotMask m0 m1 m2
    if (slotsOf m).any fun i => (s.trigger i).state == .free then .refused .triggerFree
    else
      let t := changeSlots armed m s
      .accepted t (slotMaskBytes (armedMask t))
  | _ => .refused .badLength

/-- DISARM_TRIGGERS (R113). -/
def orderDisarmTriggers (params : List Byte) (s : State) : Verdict :=
  match params with
  | [m0, m1, m2] =>
    let t := changeSlots disarmed (readSlotMask m0 m1 m2) s
    .accepted t (slotMaskBytes (armedMask t))
  | _ => .refused .badLength

/-- CLEAR_TRIGGERS (R114). -/
def orderClearTriggers (params : List Byte) (s : State) : Verdict :=
  match params with
  | [m0, m1, m2] =>
    let m := readSlotMask m0 m1 m2
    if (slotsOf m).any fun i => (s.trigger i).state == .armed then .refused .triggerArmed
    else
      let t := (slotsOf m).foldl (fun s i => s.setTrigger i .reset) s
      .accepted t (slotMaskBytes (armedMask t))
  | _ => .refused .badLength

/-- READ_TRIGGER (R115). -/
def orderReadTrigger (params : List Byte) (s : State) : Verdict :=
  match params with
  | [slot] =>
    orBadValue (readIndex 24 slot) fun i =>
      .accepted s
        ([slotStateCode (s.trigger i).state] ++ leBytes 2 (s.trigger i).fireCount ++
          triggerFieldBytes (s.trigger i).fields)
  | _ => .refused .badLength

/-- SET_TRIGGER as a frame. -/
def execSetTrigger (h : Header) (params : List Byte) (s : State) : Host.Outcome State Fault Refusal :=
  .next (takeOrder .setTrigger (orderSetTrigger params) h s)

/-- ARM_TRIGGERS as a frame. -/
def execArmTriggers (h : Header) (params : List Byte) (s : State) : Host.Outcome State Fault Refusal :=
  .next (takeOrder .armTriggers (orderArmTriggers params) h s)

/-- DISARM_TRIGGERS as a frame. -/
def execDisarmTriggers (h : Header) (params : List Byte) (s : State) : Host.Outcome State Fault Refusal :=
  .next (takeOrder .disarmTriggers (orderDisarmTriggers params) h s)

/-- CLEAR_TRIGGERS as a frame. -/
def execClearTriggers (h : Header) (params : List Byte) (s : State) : Host.Outcome State Fault Refusal :=
  .next (takeOrder .clearTriggers (orderClearTriggers params) h s)

/-- READ_TRIGGER as a frame. -/
def execReadTrigger (h : Header) (params : List Byte) (s : State) : Host.Outcome State Fault Refusal :=
  .next (takeOrder .readTrigger (orderReadTrigger params) h s)

end Sys2Proof.Machine
end

