-- ==== Sys2Proof/Machine/Dispatch.lean ====
section
/-! DEFINITION. The dispatch: one arm per command, each one direct call of its meaning. -/

namespace Sys2Proof.Machine

/-- The effect of a command on everything but the queue of waiting commands. -/
def exec (i : Instr) (s : State) : Host.Outcome State Fault Refusal :=
  match i with
  | .identify h params => Sys2Proof.Machine.execIdentify h params s
  | .getStatus h params => Sys2Proof.Machine.execGetStatus h params s
  | .setLink h params => Sys2Proof.Machine.execSetLink h params s
  | .getLinkStats h params => Sys2Proof.Machine.execGetLinkStats h params s
  | .restart h params => Sys2Proof.Machine.execRestart h params s
  | .getTime h params => Sys2Proof.Machine.execGetTime h params s
  | .setAxis h params => Sys2Proof.Machine.execSetAxis h params s
  | .getAxis h params => Sys2Proof.Machine.execGetAxis h params s
  | .enable h params => Sys2Proof.Machine.execEnable h params s
  | .disable h params => Sys2Proof.Machine.execDisable h params s
  | .setPosition h params => Sys2Proof.Machine.execSetPosition h params s
  | .getAxisState h params => Sys2Proof.Machine.execGetAxisState h params s
  | .resume h params => Sys2Proof.Machine.execResume h params s
  | .stop h params => Sys2Proof.Machine.execStop h params s
  | .queueSegment h params => Sys2Proof.Machine.execQueueSegment h params s
  | .flushQueue h params => Sys2Proof.Machine.execFlushQueue h params s
  | .peekQueue h params => Sys2Proof.Machine.execPeekQueue h params s
  | .defineProfile h params => Sys2Proof.Machine.execDefineProfile h params s
  | .readProfile h params => Sys2Proof.Machine.execReadProfile h params s
  | .dropProfile h params => Sys2Proof.Machine.execDropProfile h params s
  | .setTrigger h params => Sys2Proof.Machine.execSetTrigger h params s
  | .armTriggers h params => Sys2Proof.Machine.execArmTriggers h params s
  | .disarmTriggers h params => Sys2Proof.Machine.execDisarmTriggers h params s
  | .clearTriggers h params => Sys2Proof.Machine.execClearTriggers h params s
  | .readTrigger h params => Sys2Proof.Machine.execReadTrigger h params s
  | .setOutputs h params => Sys2Proof.Machine.execSetOutputs h params s
  | .pulseOutput h params => Sys2Proof.Machine.execPulseOutput h params s
  | .setOutputConfig h params => Sys2Proof.Machine.execSetOutputConfig h params s
  | .setPwm h params => Sys2Proof.Machine.execSetPwm h params s
  | .getPwm h params => Sys2Proof.Machine.execGetPwm h params s
  | .setInputConfig h params => Sys2Proof.Machine.execSetInputConfig h params s
  | .getIo h params => Sys2Proof.Machine.execGetIo h params s
  | .discardReports h params => Sys2Proof.Machine.execDiscardReports h params s
  | .unknownOrder h payload => Sys2Proof.Machine.execUnknownOrder h payload s
  | .poll h ack => Sys2Proof.Machine.execPoll h ack s
  | .ignoredFrame station control payload => Sys2Proof.Machine.execIgnoredFrame station control payload s
  | .checkFailure station control payload checkA checkB => Sys2Proof.Machine.execCheckFailure station control payload checkA checkB s
  | .escapeError b => Sys2Proof.Machine.execEscapeError b s
  | .oversizeFrame len => Sys2Proof.Machine.execOversizeFrame len s
  | .openingByteAbandonment => Sys2Proof.Machine.execOpeningByteAbandonment s
  | .gapAbandonment => Sys2Proof.Machine.execGapAbandonment s
  | .replyStart => Sys2Proof.Machine.execReplyStart s
  | .replyEnd => Sys2Proof.Machine.execReplyEnd s
  | .replyAbandoned => Sys2Proof.Machine.execReplyAbandoned s
  | .linkLossEvent => Sys2Proof.Machine.execLinkLossEvent s
  | .powerOn resetPinActive => Sys2Proof.Machine.execPowerOn resetPinActive s
  | .resetPin => Sys2Proof.Machine.execResetPin s
  | .resetComplete => Sys2Proof.Machine.execResetComplete s
  | .tick => Sys2Proof.Machine.execTick s
  | .dwellEnd a => Sys2Proof.Machine.execDwellEnd a s
  | .inputTimeout a => Sys2Proof.Machine.execInputTimeout a s
  | .pulseEnd n => Sys2Proof.Machine.execPulseEnd n s
  | .filterAcceptance n => Sys2Proof.Machine.execFilterAcceptance n s
  | .rawChange p high => Sys2Proof.Machine.execRawChange p high s
  | .stepIssue a => Sys2Proof.Machine.execStepIssue a s
  | .stepPulseStart a => Sys2Proof.Machine.execStepPulseStart a s
  | .stepPulseEnd a => Sys2Proof.Machine.execStepPulseEnd a s
  | .tailIntervalExpiry a => Sys2Proof.Machine.execTailIntervalExpiry a s
  | .stopWalkEnd a => Sys2Proof.Machine.execStopWalkEnd a s
  | .periodBoundary c => Sys2Proof.Machine.execPeriodBoundary c s
  | .pwmDutyEnd c => Sys2Proof.Machine.execPwmDutyEnd c s
  | .newFrameBegins => Sys2Proof.Machine.execNewFrameBegins s

end Sys2Proof.Machine
end

