-- ==== Sys2Proof/WellFormed.lean ====
section
/-! DEFINITION. The static checks of a command: what its row of spec/opcode_table.json already fixes, without any state.
A command that fails them names an event that cannot happen (notes/assumptions/1.md). -/

namespace Sys2Proof

open Sys2Proof.Machine

/-- The payload of a frame is at most 60 bytes (R154). -/
def Instr.payloadFits (i : Instr) : Bool :=
  match i.frame? with
  | some f => decide (f.payload.length ≤ maxPayload)
  | none => true

/-- The content of the command is of its own row: an order that is unknown has no known code (R161), check bytes that
fail do not match (R156), an escape error is none of the escapes and no opening byte, and an oversize length is above 60
(R155). -/
def Instr.ofItsRow : Instr → Bool
  | .unknownOrder _ p => (p.head?.bind orderOfByte).isNone
  | .checkFailure st c p checkA checkB =>
    checkBytes (Frame.checked { station := st, control := c, payload := p }) != (checkA, checkB)
  | .escapeError b => (unescaped b).isNone && b != openingByte
  | .oversizeFrame len => decide (maxPayload < len.toNat)
  | _ => true

/-- A well-formed command. -/
def Instr.wellFormed (i : Instr) : Bool := i.payloadFits && i.ofItsRow

end Sys2Proof
end

