-- ==== Sys2Proof/Safety.lean ====
section
/-! DEFINITION. What a sound state of the part is, block by block, in the words of the rules that lay it down, and the
terms the statements about orders use: when the part takes an order, and what hearing and answering one leave. -/

namespace Sys2Proof.Machine

/-! ### Segments and the pool (R2, R5) -/

/-- A rate is 1 to 40,000 (R2, R20, R36). -/
def rateInRange (r : Nat) : Bool := decide (1 ≤ r ∧ r ≤ 40000)

/-- A count of steps is 1 to 8,388,607 (R2). -/
def countInRange (n : Nat) : Bool := decide (1 ≤ n ∧ n ≤ 8388607)

/-- The kind fields of a segment of axis `a` are in their ranges (R2). -/
def Work.inRange (a : AxisId) : Work → Bool
  | .move count rate _ _ => countInRange count && rateInRange rate
  | .goto _ rate _ => rateInRange rate
  | .run rate _ _ _ => rateInRange rate
  | .home limit rate _ _ _ _ => countInRange limit && rateInRange rate
  | .dwell time => decide (1 ≤ time ∧ time ≤ 65535)
  | .join token members =>
    decide (1 ≤ token ∧ token ≤ 63 ∧ 2 ≤ (axesOf members).length) && members.getLsbD a.val
  | .waitInput _ _ timeout => decide (timeout ≤ 65535)

/-- Every queued segment is in the ranges of R2. -/
abbrev State.SegmentsInRange (s : State) : Prop := ∀ a : AxisId, (s.axis a).queue.all fun g => g.work.inRange a

/-- The pool holds at most 48 segments (R5). -/
abbrev State.PoolFits (s : State) : Prop := s.queued ≤ 48

/-! ### Profiles (R20, R22) -/

/-- A stage is in its ranges (R20). -/
def Stage.inRange (x : Stage) : Bool := rateInRange x.rate && decide (1 ≤ x.steps ∧ x.steps ≤ 255)

/-- Every stage list has at most 16 stages, each in range, with strictly ascending rates (R20). -/
abbrev State.ProfilesSound (s : State) : Prop :=
  ∀ p : ProfileId, (s.profile p).length ≤ 16 ∧ (s.profile p).all Stage.inRange ∧ ascending (s.profile p)

/-- A profile that a segment, a stop walk or an axis configuration names is DEFINED (R22, the law; R35). -/
abbrev State.NamedProfilesDefined (s : State) : Prop :=
  ∀ p : ProfileId, s.profile p = [] → ¬ s.profileInUse p ∧ ¬ s.profileNamedForStopping p

/-! ### The axis engine (R40, R41) -/

/-- A motion kind (00 section 4). -/
def Work.motion : Work → Bool
  | .move .. | .goto .. | .run .. | .home .. => true
  | .dwell _ | .join _ _ | .waitInput _ _ _ => false

/-- A counted segment (00 section 4). -/
def Work.counted : Work → Bool
  | .move .. | .goto .. => true
  | .run .. | .home .. | .dwell _ | .join _ _ | .waitInput _ _ _ => false

/-- Whether the segment is a HOME. -/
def Work.isHome : Work → Bool
  | .home .. => true
  | .move .. | .goto .. | .run .. | .dwell _ | .join _ _ | .waitInput _ _ _ => false

/-- Whether the segment's wait has a deadline (R41, R91, R93, R98). -/
def Work.timed : Work → Bool
  | .dwell _ => true
  | .waitInput _ _ timeout => decide (timeout ≠ 0)
  | .move .. | .goto .. | .run .. | .home .. | .join _ _ => false

/-- The progress record of a RUNNING axis has the parts of its segment, and no stop part (R41). -/
def Progress.fitsRunning (p : Progress) (w : Work) : Bool :=
  w.motion && p.direction.isSome && (p.count.isSome == w.counted) && p.walk.isNone && p.walkProfile.isNone &&
    p.recordedCause.isNone && !p.flushPending && (!p.homeDetected) && p.deadline.isNone &&
    decide (p.stepsTaken ≤ 8388607)

/-- The progress record of a STOPPING axis has a walk, its profile and a recorded cause, and a pending flush does not
stand beside a normal cause (R41, R67, R77). -/
def Progress.fitsStopping (p : Progress) (w : Work) : Bool :=
  w.motion && p.direction.isSome && (p.count.isSome == w.counted) && p.walk.isSome && p.walkProfile.isSome &&
    (match p.recordedCause with
      | some c => !(c.normal && p.flushPending)
      | none => false) &&
    (!p.homeDetected || w.isHome) && p.deadline.isNone && decide (p.stepsTaken ≤ 8388607)

/-- The progress record of a WAITING axis has a deadline where its segment has one, no step and no motion part (R41,
R53). -/
def Progress.fitsWaiting (p : Progress) (w : Work) : Bool :=
  !w.motion && p.direction.isNone && p.plan.legs.isEmpty && p.count.isNone && p.walk.isNone && p.walkProfile.isNone &&
    p.recordedCause.isNone && !p.flushPending && !p.homeDetected && (p.deadline.isSome == w.timed) &&
    decide (p.stepsTaken = 0) && decide (p.rate = 0)

/-- The axis is in one of the rows of the table of R40. -/
def Axis.fits (x : Axis) : Bool :=
  match x.state, x.queue, x.progress with
  | .disabled, _, none => true
  | .idle, [], none => x.heldCause == .none
  | .held, _, none => x.heldCause != .none
  | .running, g :: _, some p => x.heldCause == .none && p.fitsRunning g.work
  | .waiting, g :: _, some p => x.heldCause == .none && p.fitsWaiting g.work
  | .stopping, g :: _, some p => x.heldCause == .none && p.fitsStopping g.work
  | _, _, _ => false

/-- Every axis is in one of the rows of the table of R40. -/
abbrev State.AxesFit (s : State) : Prop := ∀ a : AxisId, (s.axis a).fits

/-! ### Joins (R97) -/

/-- The parts of an open record are in their ranges; the arrived mask is a non-empty proper part of the member mask
(R97). -/
def JoinRecord.sound (r : JoinRecord) : Bool :=
  decide (1 ≤ r.token ∧ r.token ≤ 63 ∧ 2 ≤ (axesOf r.members).length) && r.arrived != 0 &&
    r.arrived &&& ~~~r.members == 0 && r.arrived != r.members

/-- Whether an axis waits on a JOIN of this record's token and member mask. -/
def Axis.waitsIn (x : Axis) (r : JoinRecord) : Bool :=
  match x.active with
  | some (g, _) => x.state == .waiting && g.work == .join r.token r.members
  | none => false

/-- The book of meetings (R97): at most four records, no token twice, each record sound, the arrived axes of a record
WAITING on a JOIN of its token and mask, and every axis WAITING on a JOIN arrived in exactly one record. -/
abbrev State.JoinsSound (s : State) : Prop :=
  s.joins.length ≤ 4 ∧ (s.joins.map JoinRecord.token).Nodup ∧ (∀ r ∈ s.joins, r.sound) ∧
    (∀ a : AxisId, ∀ r ∈ s.joins, r.here a → (s.axis a).waitsIn r) ∧
    (∀ a : AxisId, (s.axis a).waitingOnJoin → (s.joins.filter fun r => r.here a).length = 1)

/-! ### Motion (R41, R42, R57) -/

/-- The number of steps of a run of legs; an open leg counts as none. -/
def legSum (l : List Leg) : Nat := (l.map fun x => x.steps.getD 0).sum

/-- How many steps of a track have been issued. -/
def Track.issued (t : Track) : Nat := legSum (t.legs.take t.leg) + t.inLeg

/-- The place a track has reached is a step of its leg, taken at this rate. -/
def Track.at (t : Track) (rate : Nat) : Bool :=
  match t.legs[t.leg]? with
  | some l => decide (1 ≤ t.inLeg) && decide (t.inLeg ≤ l.steps.getD t.inLeg) && l.rate == rate
  | none => false

/-- A leg of a plan or walk has a rate in range and, if it is counted, at least one step (R27). -/
def Leg.sound (l : Leg) : Bool := rateInRange l.rate && l.steps.all fun n => decide (1 ≤ n)

/-- The legs of a plan are in the phases of a plan; those of a counted segment are all counted (R27). -/
def planLegs (counted : Bool) (l : List Leg) : Bool :=
  l.all fun x => x.sound && (x.phase == .accel || x.phase == .peak || x.phase == .cruise || x.phase == .decel) &&
    (!counted || x.steps.isSome)

/-- The legs of a walk are all counted and in phase STOP_WALK, and there is at least one (R32, R33). -/
def walkLegsSound (l : List Leg) : Bool :=
  !l.isEmpty && l.all fun x => x.sound && x.phase == .stopWalk && x.steps.isSome

/-- The progress of an axis in motion agrees with its plan, its walk and its count (R34, R41, R42, R58): a RUNNING axis
has issued as many plan steps as it has taken, of a plan of exactly the count; a STOPPING one never goes beyond the count
with what is left of its walk; and the current rate is that of the latest step. -/
def Progress.onPlan (p : Progress) (st : AxisState) : Bool :=
  match st with
  | .running =>
    decide (1 ≤ p.stepsTaken) && p.plan.at p.rate && rateInRange p.rate && planLegs p.count.isSome p.plan.legs &&
      (match p.count with
        | some n => countInRange n && decide (legSum p.plan.legs = n) && decide (p.plan.issued = p.stepsTaken)
        | none => true)
  | .stopping =>
    decide (1 ≤ p.stepsTaken) && rateInRange p.rate &&
      (match p.walk with
        | some w =>
          (w.at p.rate || decide (w.leg = 0 ∧ w.inLeg = 0)) && walkLegsSound w.legs &&
            (match p.count with
              | some n => countInRange n && decide (p.stepsTaken + (legSum w.legs - w.issued) ≤ n)
              | none => true)
        | none => false)
  | .disabled | .idle | .waiting | .held => true

/-- An axis in motion is on its plan or walk. -/
def Axis.onPlan (x : Axis) : Bool :=
  match x.progress with
  | some p => p.onPlan x.state
  | none => true

/-- Every axis in motion is on its plan or walk. -/
abbrev State.MotionOnPlan (s : State) : Prop := ∀ a : AxisId, (s.axis a).onPlan

/-- The direction an axis moves in, if it has a motion segment active. -/
def Axis.heading (x : Axis) : Option Direction := x.progress.bind Progress.direction

/-- No axis is busy while ESTOP or its ALARM is accepted active, and none moves in a direction whose limit is accepted
active (R57, R78, R81, R82). -/
abbrev State.MotionGuarded (s : State) : Prop :=
  ∀ a : AxisId, (s.axis a).busy →
    s.estopActive = false ∧ s.alarmActive a = false ∧ ((s.axis a).heading.any fun d => limitAhead a d s) = false

/-! ### Triggers (R109, R110) -/

/-- The parameters of an action are in their ranges (R110). -/
def Action.inRange : Action → Bool
  | .outPulse _ w => decide (1 ≤ w ∧ w ≤ 65535)
  | .pwmDuty _ d => decide (d ≤ 65535)
  | .outSet _ | .outClear _ | .stopAxis _ _ | .armSlot _ | .note => true

/-- A slot is FREE exactly when its fields are absent, a FREE slot counts 0, and the count is at most 65,535 (R109). -/
def TriggerSlot.sound (t : TriggerSlot) : Bool :=
  match t.fields with
  | none => t.state == .free && t.fireCount == 0
  | some f => t.state != .free && decide (t.fireCount ≤ 65535) && f.action.inRange

/-- Every slot is as R109 says. -/
abbrev State.TriggersSound (s : State) : Prop := ∀ i : Fin 24, (s.trigger i).sound

/-! ### PWM channels (R130) -/

/-- A channel's records are in their ranges; a disabled channel has no pending record and an inactive pin (R130,
R131). -/
def PwmChannel.sound (c : PwmChannel) : Bool :=
  decide (20 ≤ c.active.period ∧ c.active.period ≤ 65535 ∧ c.active.duty ≤ c.active.period) &&
    (match c.pending with
      | some r => decide (20 ≤ r.period ∧ r.period ≤ 65535 ∧ r.duty ≤ 65535) && c.enabled
      | none => true) &&
    (c.enabled || !c.pinActive) && (!c.pinActive || decide (0 < c.active.duty))

/-- Both channels are as R130 says. -/
abbrev State.ChannelsSound (s : State) : Prop := ∀ c : Fin 2, (s.channel c).sound

/-! ### Inputs (R134, R135) -/

/-- The number of an input's filter is in its range, ESTOP's polarity is fixed, and a pending acceptance is present
exactly while the raw level differs from the accepted one (R134, R135, R138). -/
abbrev State.InputsSound (s : State) : Prop :=
  (∀ a : Fin 4, s.inputs.axisFilter[a] ≤ 15 ∧ s.inputs.generalFilter[a] ≤ 15) ∧
    (s.input .estop).activeHigh = false ∧
    (s.resetHeld = none → ∀ i ∈ InputId.estop :: configurableInputs,
      (s.input i).pending.isSome = ((s.input i).raw != (s.input i).accepted))

/-! ### Reports (R145) -/

/-- The numbers of a run of records that ends just before `next`, read from the tail. -/
def numbersEndAt : List Report → Byte → Bool
  | [], _ => true
  | r :: l, next => r.number + 1 == next && numbersEndAt l (next - 1)

/-- At most 32 records, their numbers consecutive up to just before the next number, and a dropped count of at most 255
(R145). -/
def ReportQueue.sound (q : ReportQueue) : Bool :=
  decide (q.records.length ≤ 32) && numbersEndAt q.records.reverse q.nextNumber && decide (q.dropped ≤ 255) &&
    q.records.all fun r => decide (r.lostBefore ≤ 255)

/-- The report queue is as R145 says. -/
abbrev State.ReportsSound (s : State) : Prop := s.reports.sound

/-! ### The line interface (R153, R157, R162, R164) -/

/-- The supervision timer runs exactly while the link is UP with a timeout; a lost link has a timeout; an unaddressed part
has no timeout, no cache entry and no reply; while a reply goes out the receive side is between frames; the counters are at
most 65,535 (R153, R157, R162, R164). -/
def LineInterface.sound (l : LineInterface) : Bool :=
  (l.timeout == 0 || decide (20 ≤ l.timeout ∧ l.timeout ≤ 60000)) &&
    (match l.link with
      | .up => l.timer.isSome == (l.timeout != 0)
      | .lost => l.timer.isNone && l.timeout != 0) &&
    (l.addressed || (l.timeout == 0 && l.cache.isNone && l.transmit == .silent)) &&
    (match l.transmit with
      | .silent => true
      | .built _ | .sending _ _ _ => l.receive == .between) &&
    decide (l.stats.checkFailures ≤ 65535 ∧ l.stats.escapeErrors ≤ 65535 ∧ l.stats.oversize ≤ 65535 ∧
      l.stats.gaps ≤ 65535 ∧ l.stats.openings ≤ 65535)

/-- The line interface is as its rules say. -/
abbrev State.LineSound (s : State) : Prop := s.line.sound

/-! ### Resets (R136, R152, R166) -/

/-- Every input (R134). -/
def allInputs : List InputId := InputId.estop :: configurableInputs

/-- The polarity of an input at reset, true for active-high (R134). -/
def resetHigh : InputId → Bool
  | .general _ => true
  | .axis _ _ | .estop => false

/-- The input settings are at their reset values: polarities, filters and report-on-change flags (R136). -/
abbrev State.InputSettingsReset (s : State) : Prop :=
  (∀ i ∈ allInputs, (s.input i).activeHigh = resetHigh i ∧ (s.input i).pending = none) ∧
    s.inputs.axisFilter = Vector.replicate 4 2 ∧ s.inputs.generalFilter = Vector.replicate 4 2 ∧
    s.inputs.reportOnChange = 0

/-- Every block but the inputs' levels, the reports and the line is at its reset values (R18, R20, R64, R97, R109, R124,
R130, R136, R142). -/
abbrev State.BlocksReset (s : State) : Prop :=
  s.axes = Vector.replicate 4 .reset ∧ s.joins = [] ∧ s.profiles = Vector.replicate 8 [] ∧
    s.triggers = Vector.replicate 24 .reset ∧ s.outputs = Vector.replicate 8 .reset ∧
    s.pwm = Vector.replicate 2 .reset ∧ s.uptime = 0 ∧ s.InputSettingsReset

/-- While the part is held in reset, every block is at its reset values and no report waits (R166). -/
abbrev State.QuietInReset (s : State) : Prop :=
  s.resetHeld ≠ none →
    s.BlocksReset ∧ s.reports = .reset ∧
      s.line = .reset s.line.addressPins s.line.address s.line.speedPins s.line.speed

/-- `t` is the part right after a reset with this cause, where `s` is what the reset finds on the pins (R136, R152, R153,
R166). -/
abbrev State.JustReset (cause : ResetCause) (s t : State) : Prop :=
  t.BlocksReset ∧
    (∀ i ∈ allInputs, (t.input i).pinHigh = (s.input i).pinHigh ∧
      (t.input i).accepted = ((s.input i).pinHigh == resetHigh i)) ∧
    t.reports =
      { records := [{ number := 0, timestamp := 0, lostBefore := 0, body := .restarted cause }], nextNumber := 1
        dropped := 0, attention := true } ∧
    t.line = .reset s.line.addressPins s.line.addressPins s.line.speedPins s.line.speedPins ∧
    t.resetHeld = none ∧ t.freeCount = s.freeCount ∧ t.pending = s.pending

/-! ### The whole part -/

/-- A sound state: every block as its rules say. -/
structure State.Sound (s : State) : Prop where
  segments : s.SegmentsInRange
  pool     : s.PoolFits
  profiles : s.ProfilesSound
  named    : s.NamedProfilesDefined
  axes     : s.AxesFit
  joins    : s.JoinsSound
  onPlan   : s.MotionOnPlan
  guarded  : s.MotionGuarded
  triggers : s.TriggersSound
  channels : s.ChannelsSound
  inputs   : s.InputsSound
  reports  : s.ReportsSound
  line     : s.LineSound
  quiet    : s.QuietInReset

/-! ### Taking frames (R155 to R162) -/

/-- A RESTART has been answered, and its reply waits to go out or goes out (R166). -/
def State.restartWaiting (s : State) : Bool :=
  match s.line.transmit with
  | .silent => false
  | .built r => r.restarts
  | .sending r _ _ => r.restarts

/-- A complete frame reaches the part: it is not in reset and not transmitting, and the frame's opening byte brings no
RESTART about (R155, R157, R166). -/
structure State.Listens (s : State) : Prop where
  running : s.resetHeld = none
  quiet   : s.transmitting = false
  stays   : s.line.receive = .between → s.restartWaiting = false

/-- The part after a complete frame that it does not take: the receive side is between frames, and a reply that had not
begun when the frame opened is abandoned (R155, R157). -/
def State.framed (s : State) : State :=
  { s with line := { s.line with
    receive := .between
    transmit := match s.line.receive with
      | .between => .silent
      | .inFrame => s.line.transmit } }

/-- The part after the completion of a supervising frame (R162): UP with a timeout, or LOST, the timer is restarted; LOST,
the link becomes UP and the was-lost mark is set. -/
def State.heard (s : State) : State :=
  { s.framed with line := { s.framed.line with
    link := .up
    wasLost := s.line.wasLost || s.line.link == .lost
    timer := if s.line.link = .lost ∨ s.line.timeout ≠ 0 then some (s.uptime + BitVec.ofNat 32 s.line.timeout)
      else s.line.timer } }

/-- A frame with this station byte is addressed to the part, which listens (R153, R156). -/
structure State.Takes (s : State) (h : Header) : Prop where
  listens   : s.Listens
  addressed : 1 ≤ s.line.address.toNat ∧ s.line.address.toNat ≤ 30
  station   : h.station.toNat = s.line.address.toNat

/-- The replay cache does not hold the order's sequence (R159). -/
abbrev State.Fresh (s : State) (h : Header) : Prop := ∀ e, s.line.cache = some e → e.1 ≠ h.seq

/-- The reply to an order with this header is built, with this payload (R157). -/
def State.replying (s : State) (h : Header) (payload : List Byte) (restarts : Bool) : State :=
  { s with line := { s.line with
    transmit := .built { station := 0x80 + s.line.address.setWidth 8, kind := .orderReply, seq := h.seq
                         payload := payload, restarts := restarts } } }

/-- An executed order has left `t`, and is answered: the reply carries the echoed code, the outcome code and the result,
and the replay cache holds it (R157, R159, R167). -/
def State.answered (t : State) (h : Header) (code outcome : Byte) (result : List Byte) : State :=
  { t.replying h (code :: outcome :: result) false with
    line := { (t.replying h (code :: outcome :: result) false).line with
      cache := some (h.seq, code :: outcome :: result) } }

/-! ### Writing a group of records -/

/-- Every axis is changed by a function of its number and record. -/
def State.mapAxes (s : State) (f : AxisId → Axis → Axis) : State := { s with axes := Vector.ofFn fun a => f a (s.axis a) }

/-- Every trigger slot is changed by a function of its number and record. -/
def State.mapSlots (s : State) (f : Fin 24 → TriggerSlot → TriggerSlot) : State :=
  { s with triggers := Vector.ofFn fun i => f i (s.trigger i) }

/-- Every output is changed by a function of its number and record. -/
def State.mapOutputs (s : State) (f : Fin 8 → OutputRecord → OutputRecord) : State :=
  { s with outputs := Vector.ofFn fun n => f n (s.output n) }

/-- Both PWM channels are changed by a function of number and record. -/
def State.mapChannels (s : State) (f : Fin 2 → PwmChannel → PwmChannel) : State :=
  { s with pwm := Vector.ofFn fun c => f c (s.channel c) }

/-! ### What becomes of an active segment -/

/-- The end record of the active segment `g` of axis `a`, with `rest` behind it and progress `p`, for an end with cause
`c` (R61). -/
def State.endRecord (s : State) (a : AxisId) (g : Segment) (rest : List Segment) (p : Progress) (c : Cause) : EndRecord :=
  { tag := g.tag, kind := g.work.kind, cause := c, stepsTaken := p.stepsTaken, endPosition := (s.axis a).position
    discarded := if p.flushPending then rest.length else 0 }

/-- The active segment of axis `a` has ended with a cause `c` that is neither normal nor ESTOP, and no meeting is broken by
it: SEGMENT_DONE is admitted, the axis is HELD with the cause and the rest of its queue, which a pending flush discards; with
STOPPED_BY_ORDER and a pending flush it is IDLE (R59, R60, R61). -/
def State.heldAfter (s : State) (a : AxisId) (g : Segment) (rest : List Segment) (p : Progress) (c : Cause) : State :=
  let e := s.endRecord a g rest p c
  let idle : Bool := c == .stoppedByOrder && p.flushPending
  admitReport (.segmentDone a e) (s.setAxis a { s.axis a with
    state := if idle then .idle else .held
    heldCause := if idle then .none else .stopped c
    queue := if p.flushPending then [] else rest
    lastEnd := some e
    progress := none })

/-- The active segment of axis `a`, the last of its queue, has ended with a normal cause `c` and no flush pending:
SEGMENT_DONE is admitted when its REPORT flag is set, and the axis is IDLE (R59, R60, R61). -/
def State.idleAfter (s : State) (a : AxisId) (g : Segment) (p : Progress) (c : Cause) : State :=
  let e := s.endRecord a g [] p c
  State.setAxis (if g.report then admitReport (.segmentDone a e) s else s) a { s.axis a with
    state := .idle, heldCause := .none, queue := [], lastEnd := some e, progress := none }

/-- The stop walk that a ramped stop of a RUNNING axis takes, with the profile it is taken from: the stages below the
current rate, in descending order, cut at the segment's last planned step (R30, R32, R34). `none` where no stop profile
results or no leg is left, and the segment ends at once (R33). -/
def State.walkFrom (s : State) (a : AxisId) (g : Segment) (p : Progress) : Option (ProfileId × List Leg) :=
  match g.work.profile.or (s.axis a).config.stopProfile with
  | none => none
  | some k =>
    let stages := ((s.profile k).filter fun x => decide (x.rate < p.rate)).reverse
    let kept := match p.count with
      | some n => takeSteps (n - p.stepsTaken) stages
      | none => stages
    match kept.map fun x => Leg.mk .stopWalk x.rate (some x.steps) with
    | [] => none
    | l :: ls => some (k, l :: ls)

/-- Axis `a` has begun a stop walk of these legs, taken from profile `k`, with this cause recorded (R67). -/
def State.walkBegun (s : State) (a : AxisId) (p : Progress) (k : ProfileId) (legs : List Leg) (c : Cause) : State :=
  s.setAxis a { s.axis a with
    state := .stopping
    progress := some { p with
      walk := some { legs := legs, leg := 0, inLeg := 0 }, walkProfile := some k, recordedCause := some c } }

/-- The outcome `o` is the end of the active segment of axis `a` with a cause `c` that is neither normal nor ESTOP, from the
state `s`: the axis is left as `heldAfter` says; another axis changes only by its JOIN being broken, which holds it; no other
block changes but the book of meetings and the report queue; and where the axis is in no open record, nothing is left to
break (R59 to R61, R69, R102 to R105). -/
def State.EndsHeld (s : State) (a : AxisId) (g : Segment) (rest : List Segment) (p : Progress) (c : Cause)
    (o : Host.Outcome State Fault Refusal) : Prop :=
  ∃ t, o = .next t ∧ t.axis a = (s.heldAfter a g rest p c).axis a ∧
    (∀ b, b ≠ a → t.axis b = s.axis b ∨ (t.axis b).state = .held ∧ (t.axis b).heldCause = .stopped .joinBroken) ∧
    t.inputs = s.inputs ∧ t.outputs = s.outputs ∧ t.pwm = s.pwm ∧ t.triggers = s.triggers ∧ t.profiles = s.profiles ∧
    t.line = s.line ∧ t.uptime = s.uptime ∧
    ((∀ r ∈ s.joins, r.member a = false ∧ r.here a = false) → t = s.heldAfter a g rest p c)

/-! ### What an order's fields may hold -/

/-- The fields of a configuration record are in the ranges of R37 step 1. -/
def AxisConfig.inRange (c : AxisConfig) : Bool :=
  rateInRange c.maxRate && rateInRange c.pullInRate && rateInRange c.slowThreshold &&
    decide (2 ≤ c.stepPulseWidth ∧ c.stepPulseWidth ≤ 100)

/-- A configuration record whose quantities fit their bytes (R169). -/
def AxisConfig.fitsBytes (c : AxisConfig) : Bool :=
  decide (c.maxRate < 65536 ∧ c.pullInRate < 65536 ∧ c.slowThreshold < 65536 ∧ c.stepPulseWidth < 256)

/-- A segment whose quantities fit their bytes (R170). -/
def Work.fitsBytes : Work → Bool
  | .move count rate _ _ => decide (count < 16777216 ∧ rate < 65536)
  | .goto _ rate _ => decide (rate < 65536)
  | .run rate _ _ _ => decide (rate < 65536)
  | .home limit rate _ _ _ _ => decide (limit < 16777216 ∧ rate < 65536)
  | .dwell time => decide (time < 65536)
  | .join token _ => decide (token < 256)
  | .waitInput _ _ timeout => decide (timeout < 65536)

/-- An action whose quantities fit their bytes (R171). -/
def Action.fitsBytes : Action → Bool
  | .outPulse _ w => decide (w < 65536)
  | .pwmDuty _ d => decide (d < 65536)
  | .outSet _ | .outClear _ | .stopAxis _ _ | .armSlot _ | .note => true

/-- The length of an order's parameters as tabled in R169, for an order whose parameters begin with `params`: DEFINE_PROFILE's
depends on the stage count it declares, and no length fits a count above 19 (R168). -/
def tabledLength (c : OrderCode) (params : List Byte) : Option Nat :=
  match c with
  | .identify | .getStatus | .restart | .getTime | .getIo | .discardReports => some 0
  | .getLinkStats | .getAxis | .enable | .disable | .getAxisState | .resume | .flushQueue | .readProfile
  | .dropProfile | .readTrigger | .getPwm => some 1
  | .peekQueue | .setOutputs => some 2
  | .setLink | .stop | .armTriggers | .disarmTriggers | .clearTriggers | .pulseOutput => some 3
  | .setPosition | .setOutputConfig => some 4
  | .setPwm => some 6
  | .queueSegment => some 10
  | .setAxis => some 12
  | .setTrigger => some 13
  | .setInputConfig => some 14
  | .defineProfile =>
    match params with
    | _ :: c :: _ => if c.toNat ≤ 19 then some (2 + 3 * c.toNat) else none
    | _ => none

/-- The bytes of a SET_INPUT_CONFIG (R140, R169). -/
def InputConfig.bytes (c : InputConfig) : List Byte :=
  (c.axisHigh.toList.map fun b => b.setWidth 8) ++ [c.generalHigh.setWidth 8] ++
    ((c.axisFilter.toList ++ c.generalFilter.toList).map fun n => BitVec.ofNat 8 n) ++ [c.reportOnChange.setWidth 8]

/-- Every filter value of a SET_INPUT_CONFIG is at most 15 ms (R140). -/
abbrev InputConfig.FiltersFit (c : InputConfig) : Prop := ∀ a : Fin 4, c.axisFilter[a] ≤ 15 ∧ c.generalFilter[a] ≤ 15

/-- The parameters of an order spell fields of the order (R168 to R171): a number of something the part has, a mask without
stray bits, a flag that is 0 or 1, a value that has a code, and zeros in the bytes that belong to no field. Quantities may
still be out of their ranges. -/
def Spells (c : OrderCode) (p : List Byte) : Prop :=
  match c with
  | .identify | .getStatus | .restart | .getTime | .getIo | .discardReports | .armTriggers | .disarmTriggers
  | .clearTriggers | .setOutputs | .setOutputConfig => True
  | .getLinkStats => ∃ f : Bool, p = [flagByte f]
  | .setLink => ∃ (t : Nat) (f : Bool), t < 65536 ∧ p = leBytes 2 t ++ [flagByte f]
  | .getAxis | .getAxisState => ∃ a : AxisId, p = [BitVec.ofNat 8 a.val]
  | .peekQueue => ∃ (a : AxisId) (start : Byte), p = [BitVec.ofNat 8 a.val, start]
  | .enable | .disable | .resume | .flushQueue => ∃ m : AxisMask, p = [m.setWidth 8]
  | .stop => ∃ (m : AxisMask) (abrupt flush : Bool), p = [m.setWidth 8, flagByte abrupt, flagByte flush]
  | .setAxis => ∃ (a : AxisId) (x : AxisConfig), x.fitsBytes ∧ p = BitVec.ofNat 8 a.val :: configBytes x
  | .setPosition => ∃ (a : AxisId) (x : Position), p = BitVec.ofNat 8 a.val :: positionBytes x
  | .queueSegment => ∃ (a : AxisId) (g : Segment), g.work.fitsBytes ∧ p = segmentBytes a g
  | .readProfile | .dropProfile => ∃ k : ProfileId, p = [BitVec.ofNat 8 k.val]
  | .defineProfile => ∃ (k : ProfileId) (l : List Stage), (∀ x ∈ l, x.rate < 65536 ∧ x.steps < 256) ∧ l.length ≤ 19 ∧
      p = BitVec.ofNat 8 k.val :: BitVec.ofNat 8 l.length :: stageBytes l
  | .setTrigger => ∃ (i : Fin 24) (f : TriggerFields) (armNow : Bool), f.action.fitsBytes ∧
      p = [BitVec.ofNat 8 i.val] ++ triggerFieldBytes (some f) ++ [flagByte armNow]
  | .readTrigger => ∃ i : Fin 24, p = [BitVec.ofNat 8 i.val]
  | .pulseOutput => ∃ (n : Fin 8) (w : Nat), w < 65536 ∧ p = BitVec.ofNat 8 n.val :: leBytes 2 w
  | .setPwm => ∃ (c : Fin 2) (enable : Bool) (period duty : Nat), period < 65536 ∧ duty < 65536 ∧
      p = [BitVec.ofNat 8 c.val, flagByte enable] ++ leBytes 2 period ++ leBytes 2 duty
  | .getPwm => ∃ c : Fin 2, p = [BitVec.ofNat 8 c.val]
  | .setInputConfig => ∃ c : InputConfig, c.FiltersFit ∧ p = c.bytes

end Sys2Proof.Machine
end

