-- ==== Sys2Proof/Certificates/Slice0/Obligations.lean ====
section
/-! DEFINITION. The statements about the part, for the provers. Where one rests on a choice of the model, its docstring says
which log entry. -/

open Sys2Proof Sys2Proof.Machine

/-! ### The machine -/

/-- A step takes the command at the front of the queue and runs it on the state with the queue's rest. That the part idles
on an empty queue is the model's choice (notes/assumptions/2.md). -/
def Obligations.StepRunsTheFrontCommand : Prop :=
  (∀ (c : Instr) (rest : List Instr) (s : State), s.pending = c :: rest →
      step s = exec c { s with pending := rest }) ∧
    ∀ s : State, s.pending = [] → step s = .next s

/-- Every command has a next state, and none touches the queue of waiting commands (R155, R161: nothing stops the
part). -/
def Obligations.EveryCommandAnswersAndKeepsTheQueue : Prop :=
  ∀ (i : Instr) (s : State), ∃ t, exec i s = .next t ∧ t.pending = s.pending

/-- Each block's settings are changed by their own commands and by resets alone: an axis configuration by SET_AXIS (R38), a
profile by DEFINE_PROFILE and DROP_PROFILE (R20), the uptime by TICK (R142), link timeout and attention by SET_LINK (R163),
polarities, filters and flags of the inputs by SET_INPUT_CONFIG (R140), a trigger's fields by SET_TRIGGER and
CLEAR_TRIGGERS (R109), output polarities and link-loss levels by SET_OUTPUT_CONFIG (R124, R125), pin levels by RAW_CHANGE;
and a queue grows by QUEUE_SEGMENT alone (R6, R7). -/
def Obligations.SettingsChangeByTheirOwnCommands : Prop :=
  ∀ (i : Instr) (s t : State), exec i s = .next t →
    s.restartWaiting = false → (∀ b, i ≠ .powerOn b) → i ≠ .resetPin →
    ((∀ h p, i ≠ .setAxis h p) → ∀ a, (t.axis a).config = (s.axis a).config) ∧
    ((∀ h p, i ≠ .queueSegment h p) → ∀ a, (t.axis a).queue <:+ (s.axis a).queue) ∧
    ((∀ h p, i ≠ .defineProfile h p ∧ i ≠ .dropProfile h p) → t.profiles = s.profiles) ∧
    (i ≠ .tick → t.uptime = s.uptime) ∧
    ((∀ h p, i ≠ .setLink h p) → t.line.timeout = s.line.timeout ∧ t.reports.attention = s.reports.attention) ∧
    ((∀ h p, i ≠ .setInputConfig h p) →
      (∀ j, (t.input j).activeHigh = (s.input j).activeHigh) ∧ t.inputs.axisFilter = s.inputs.axisFilter ∧
        t.inputs.generalFilter = s.inputs.generalFilter ∧ t.inputs.reportOnChange = s.inputs.reportOnChange) ∧
    ((∀ h p, i ≠ .setTrigger h p ∧ i ≠ .clearTriggers h p) → ∀ j, (t.trigger j).fields = (s.trigger j).fields) ∧
    ((∀ h p, i ≠ .setOutputConfig h p) →
      (∀ n, (t.output n).activeLow = (s.output n).activeLow ∧ (t.output n).lossLevel = (s.output n).lossLevel) ∧
        ∀ c, (t.channel c).offOnLoss = (s.channel c).offOnLoss) ∧
    ((∀ p b, i ≠ .rawChange p b) → ∀ j, (t.input j).pinHigh = (s.input j).pinHigh)

/-! ### Resets -/

/-- While the RESET pin is active the part is held in reset: every block at its reset values, no report, ATTN released
(R166). At power-on with the pin active the cause kept is POWER, at the pin PIN (R152). -/
def Obligations.ResetPinHoldsThePartInReset : Prop :=
  (∀ s : State, ∃ t, exec (.powerOn true) s = .next t ∧ t.resetHeld = some .power ∧ t.QuietInReset ∧
      t.attnAsserted = false ∧ t.pending = s.pending ∧ ∀ i ∈ allInputs, (t.input i).pinHigh = (s.input i).pinHigh) ∧
    ∀ s : State, s.resetHeld = none → ∃ t, exec .resetPin s = .next t ∧ t.resetHeld = some .pin ∧ t.QuietInReset ∧
      t.attnAsserted = false ∧ t.pending = s.pending ∧ ∀ i ∈ allInputs, (t.input i).pinHigh = (s.input i).pinHigh

/-- After each of the resets the part is in the state the chapters give, with RESTARTED alone in the report queue: after
power-on and after a pin reset once the pin is inactive, and after a RESTART once its reply has gone out or has been
abandoned (R152, R166). -/
def Obligations.EveryResetLeavesTheResetState : Prop :=
  (∀ s : State, ∃ t, exec (.powerOn false) s = .next t ∧ s.JustReset .power t) ∧
    (∀ (c : ResetCause) (s : State), s.resetHeld = some c → s.QuietInReset →
      ∃ t, exec .resetComplete s = .next t ∧ s.JustReset c t ∧ t.attnAsserted = true) ∧
    (∀ (r : Reply) (b c : Bool) (s : State), s.resetHeld = none → s.line.transmit = .sending r b c → r.restarts = true →
      ∃ t, exec .replyEnd s = .next t ∧ s.JustReset .order t) ∧
    (∀ (r : Reply) (s : State), s.resetHeld = none → s.line.transmit = .built r → r.restarts = true →
      s.line.receive = .between →
      (∃ t, exec .replyAbandoned s = .next t ∧ s.JustReset .order t) ∧
        ∃ t, exec .newFrameBegins s = .next t ∧ s.JustReset .order t)

/-- Held in reset, the part takes no frame, tick, expiry or pulse: every command but POWER_ON, RESET_COMPLETE and a change
of a pin leaves the state as it is (R166). -/
def Obligations.NothingHappensInReset : Prop :=
  ∀ (i : Instr) (s : State), s.resetHeld ≠ none → (∀ b, i ≠ .powerOn b) → i ≠ .resetComplete →
    (∀ p b, i ≠ .rawChange p b) → exec i s = .next s

/-- The state right after reset is sound in every block, and so is the part right after power-on from any state at all
(R166). -/
def Obligations.ResetStateIsSound : Prop :=
  State.reset.Sound ∧ ∀ (s t : State), exec (.powerOn false) s = .next t → t.Sound

/-! ### Frames on the line -/

/-- The receive side reads back every frame of at most 60 payload bytes, whatever its check bytes, from the bytes it
has on the line, between frames or in a frame (R154, R155). The opening byte 0xB7 stands on the line only where a
frame opens (R154). -/
def Obligations.FramesAreReadBackFromTheirBytes : Prop :=
  (∀ (f : Frame) (checkA checkB : Byte) (r : Assembly), f.payload.length ≤ 60 →
    receiveBytes r (openingByte :: (f.checked ++ [checkA, checkB]).flatMap escaped) =
      (.between, [if r = .between then .newFrame else .openingAbandonment, .complete f checkA checkB])) ∧
  (∀ f : Frame, ∃ rest, f.wire = openingByte :: rest ∧ openingByte ∉ rest)

/-- Every well-formed command that is a whole frame is the command its frame is read as, with its header, its parameters
and, for CHECK_FAILURE, the check bytes received (R156, R161, R167, R169). IGNORED_FRAME is left out: which frames the part
ignores depends on its address. -/
def Obligations.CommandsAreReadBackFromTheirFrames : Prop :=
  ∀ (i : Instr) (f : Frame), i.wellFormed → i.frame? = some f →
    match i with
    | .ignoredFrame _ _ _ => True
    | .checkFailure _ _ _ checkA checkB => commandOfFrame f checkA checkB = i
    | _ => commandOfFrame f (checkBytes f.checked).1 (checkBytes f.checked).2 = i

/-- A frame that the station filter, its kind or its payload makes the part ignore has the same effect whether it is
taken as IGNORED_FRAME or as the command its bytes spell (R156, R160). A valid frame that is neither addressed to the
station nor broadcast changes nothing beyond the receive side (R156); one that is, and is ignored for its kind or
payload, supervises the link and does nothing else (R156, R162). An order or poll for another station changes nothing
but the receive side (R156). -/
def Obligations.IgnoredFramesHaveNoEffectButSupervision : Prop :=
  (∀ (f : Frame) (s : State), ignores s.line f.station f.control f.payload → s.restartWaiting = false →
    exec (commandOfFrame f (checkBytes f.checked).1 (checkBytes f.checked).2) s =
      exec (.ignoredFrame f.station f.control f.payload) s) ∧
  ((∀ (st control : Byte) (payload : List Byte) (s : State), s.Listens → ignores s.line st control payload →
    (st.toNat ≠ 31 → ¬ (s.line.addressed ∧ st.toNat = s.line.address.toNat) →
      exec (.ignoredFrame st control payload) s = .next s.framed) ∧
    (st.toNat = 31 ∨ (s.line.addressed ∧ st.toNat = s.line.address.toNat) →
      exec (.ignoredFrame st control payload) s = .next s.heard)) ∧
  (∀ (i : Instr) (f : Frame) (s : State), i.wellFormed → i.frame? = some f → s.Listens →
    (∀ st c p a b, i ≠ .checkFailure st c p a b) → (∀ st c p, i ≠ .ignoredFrame st c p) →
    f.station.toNat ≠ 31 → ¬ (s.line.addressed ∧ f.station.toNat = s.line.address.toNat) →
    exec i s = .next s.framed))

/-- A broadcast order other than STOP, RESUME and SET_OUTPUTS, and a broadcast POLL, are ignored but supervise the link; a
broadcast STOP, RESUME or SET_OUTPUTS builds no reply and neither reads nor writes the replay cache, and does to the rest of
the part what the same order addressed to the station does (R160). -/
def Obligations.BroadcastsAreCarriedOutWithoutReply : Prop :=
  ∀ (h : Header) (s : State), h.station.toNat = 31 → s.Listens →
    (∀ (c : OrderCode) (p : List Byte), broadcastOrder c = false → exec (orderCommand c h p) s = .next s.heard) ∧
    (∀ p, (p.head?.bind orderOfByte).isNone → exec (.unknownOrder h p) s = .next s.heard) ∧
    (∀ ack, exec (.poll h ack) s = .next s.heard) ∧
    ∀ (c : OrderCode) (p : List Byte), broadcastOrder c = true →
      ∃ t, exec (orderCommand c h p) s = .next t ∧ t.line = s.heard.line ∧
        ∀ own : Header, s.Takes own → s.Fresh own →
          ∃ t', exec (orderCommand c own p) s = .next t' ∧ { t' with line := t.line } = t

/-- An order whose sequence the replay cache holds is not executed: the cached payload is sent again, whatever the order and
its parameters (R159). -/
def Obligations.RepeatedOrdersAreAnsweredFromTheCache : Prop :=
  ∀ (h : Header) (payload : List Byte) (s : State), s.Takes h → s.line.cache = some (h.seq, payload) →
    (∀ (c : OrderCode) (p : List Byte), exec (orderCommand c h p) s = .next (s.heard.replying h payload false)) ∧
    ∀ p, (p.head?.bind orderOfByte).isNone →
      exec (.unknownOrder h p) s = .next (s.heard.replying h payload false)

/-- A refused order changes nothing but the replay cache, the reply and the link's supervision; and every executed order,
accepted or refused, is stored in the replay cache with the payload of its reply (R159, R161). -/
def Obligations.RefusedOrdersChangeNothing : Prop :=
  ∀ (c : OrderCode) (h : Header) (p : List Byte) (s : State), s.Takes h → s.Fresh h →
    ∃ t outcome result, exec (orderCommand c h p) s = .next t ∧
      t.line.cache = some (h.seq, orderByte c :: outcome :: result) ∧
      (∃ r, t.line.transmit = .built r ∧ r.payload = orderByte c :: outcome :: result) ∧
      (outcome ≠ 0 → result = [] ∧ t = s.heard.answered h (orderByte c) outcome [])

/-- An order whose length is not the tabled one is refused with BAD_LENGTH (R161 step 2, R168). A payload without a
known order code is refused with UNKNOWN_ORDER; the reply echoes its first byte, or 0x00 when it is empty (R161 step
1). An order of the right length whose bytes spell no fields of the order (a number the part does not have, a stray bit or
byte, a value without a code) is refused with BAD_VALUE, whatever the state (R161 step 3, R168). -/
def Obligations.MalformedOrdersAreRefused : Prop :=
  (∀ (c : OrderCode) (h : Header) (p : List Byte) (s : State), s.Takes h → s.Fresh h →
    tabledLength c p ≠ some p.length →
    exec (orderCommand c h p) s = .next (s.heard.answered h (orderByte c) 2 [])) ∧
  (∀ (h : Header) (p : List Byte) (s : State), s.Takes h → s.Fresh h → (p.head?.bind orderOfByte).isNone →
    exec (.unknownOrder h p) s = .next (s.heard.answered h (p.headD 0) 1 [])) ∧
  ∀ (c : OrderCode) (h : Header) (p : List Byte) (s : State), s.Takes h → s.Fresh h →
    tabledLength c p = some p.length → ¬ Spells c p →
    exec (orderCommand c h p) s = .next (s.heard.answered h (orderByte c) 3 [])

/-- Every reply fits a frame: the payload of the reply built to an addressed order or poll is at most 60 bytes (R154). -/
def Obligations.RepliesFitAFrame : Prop :=
  ∀ (s : State) (h : Header), s.ProfilesSound → s.Takes h → s.Fresh h →
    (∀ (c : OrderCode) (p : List Byte), ∃ t r, exec (orderCommand c h p) s = .next t ∧
      t.line.transmit = .built r ∧ r.payload.length ≤ 60) ∧
    ∀ ack, ∃ t r, exec (.poll h ack) s = .next t ∧ t.line.transmit = .built r ∧ r.payload.length ≤ 24

/-- A POLL removes the head record when its acknowledgement is the head's number, and nothing else; the reply carries the
states of the axes, the free slots, the number of records after the removal and the record then at the head (R148, R149,
R157, R172). -/
def Obligations.PollAcknowledgesAndCarriesTheHead : Prop :=
  ∀ (h : Header) (ack : Option Byte) (s : State), s.Takes h →
    exec (.poll h ack) s = .next
      (let left := match ack, s.reports.records with
          | some n, r :: rest => if r.number = n then rest else r :: rest
          | _, l => l
       { s.heard with
          reports := { s.reports with records := left }
          line := { s.heard.line with
            transmit := .built
              { station := 0x80 + s.line.address.setWidth 8, kind := .pollReply, seq := 0, restarts := false
                payload :=
                  [axisStateCode (s.axis 0).state, axisStateCode (s.axis 1).state, axisStateCode (s.axis 2).state,
                    axisStateCode (s.axis 3).state, BitVec.ofNat 8 (48 - s.queued), BitVec.ofNat 8 left.length] ++
                  (left.head?.map reportBytes).getD [] } } })

/-- A frame in progress is abandoned and counted, and nothing else happens: an opening byte, which begins a new frame; a gap
of more than 10 ms; a bad escape; a length above 60; and check bytes that do not match. Each counter stops at 65,535 (R155,
R156, R164). -/
def Obligations.AbandonedFramesAreCounted : Prop :=
  (∀ s : State, s.resetHeld = none → s.transmitting = false → s.line.receive = .inFrame →
      s.line.stats.openings ≤ 65535 →
      exec .openingByteAbandonment s =
        .next (s.setStats { s.line.stats with openings := min 65535 (s.line.stats.openings + 1) })) ∧
    (∀ s : State, s.resetHeld = none → s.transmitting = false → s.line.receive = .inFrame → s.line.stats.gaps ≤ 65535 →
      exec .gapAbandonment s = .next ((s.setReceive .between).setStats
        { s.line.stats with gaps := min 65535 (s.line.stats.gaps + 1) })) ∧
    (∀ (b : Byte) (s : State), s.resetHeld = none → s.transmitting = false → s.line.receive = .inFrame →
      s.line.stats.escapeErrors ≤ 65535 → b ≠ 0xF7 → b ≠ 0xF8 → b ≠ 0xB7 →
      exec (.escapeError b) s = .next ((s.setReceive .between).setStats
        { s.line.stats with escapeErrors := min 65535 (s.line.stats.escapeErrors + 1) })) ∧
    (∀ (b : Byte) (s : State), s.resetHeld = none → s.transmitting = false → s.line.receive = .inFrame →
      s.line.stats.oversize ≤ 65535 → 60 < b.toNat →
      exec (.oversizeFrame b) s = .next ((s.setReceive .between).setStats
        { s.line.stats with oversize := min 65535 (s.line.stats.oversize + 1) })) ∧
    ∀ (st control : Byte) (payload : List Byte) (checkA checkB : Byte) (s : State), s.Listens →
      s.line.stats.checkFailures ≤ 65535 →
      checkBytes (Frame.checked { station := st, control := control, payload := payload }) ≠ (checkA, checkB) →
      exec (.checkFailure st control payload checkA checkB) s = .next (s.framed.setStats
        { s.line.stats with checkFailures := min 65535 (s.line.stats.checkFailures + 1) })

/-- A reply that begins sets REPORTS_PENDING and LINK_WAS_LOST from the state then and clears the was-lost mark; when it
ends the receive side is between frames; an opening byte before it begins abandons it (R157, R162). -/
def Obligations.RepliesStartEndAndAreAbandoned : Prop :=
  (∀ (r : Reply) (s : State), s.resetHeld = none → s.line.transmit = .built r →
      exec .replyStart s = .next { s with line := { s.line with
        transmit := .sending r
          (match r.kind with
            | .pollReply => decide (6 < r.payload.length)
            | .orderReply => decide (s.reports.records ≠ []))
          s.line.wasLost
        wasLost := false } }) ∧
    (∀ (r : Reply) (b c : Bool) (s : State), s.resetHeld = none → s.line.transmit = .sending r b c → r.restarts = false →
      exec .replyEnd s = .next { s with line := { s.line with transmit := .silent, receive := .between } }) ∧
    (∀ (r : Reply) (s : State), s.resetHeld = none → s.line.transmit = .built r → r.restarts = false →
      s.line.receive = .between →
      exec .replyAbandoned s = .next { s with line := { s.line with transmit := .silent, receive := .inFrame } } ∧
        exec .newFrameBegins s = .next { s with line := { s.line with transmit := .silent, receive := .inFrame } }) ∧
    ∀ s : State, s.resetHeld = none → s.line.transmit = .silent → s.line.receive = .between →
      exec .newFrameBegins s = .next { s with line := { s.line with receive := .inFrame } }

/-! ### The orders of the line interface and the time base -/

/-- IDENTIFY, GET_STATUS, GET_TIME and GET_LINK_STATS answer with what the part holds and change nothing, but that
GET_LINK_STATS with its flag set clears the five counters (R143, R164, R165, R169). -/
def Obligations.LineQueriesAnswer : Prop :=
  ∀ (h : Header) (s : State), s.Takes h → s.Fresh h →
    exec (.identify h []) s = .next (s.heard.answered h 0x01 0
      [0x4A, 0x01, s.line.address.setWidth 8, s.line.speed.setWidth 8, 4, 48, 8, 24, 32, 8, 2, 4, 60]) ∧
    exec (.getStatus h []) s = .next (s.heard.answered h 0x02 0
      ([axisStateCode (s.axis 0).state, heldCauseCode (s.axis 0).heldCause, BitVec.ofNat 8 (s.axis 0).queue.length,
        axisStateCode (s.axis 1).state, heldCauseCode (s.axis 1).heldCause, BitVec.ofNat 8 (s.axis 1).queue.length,
        axisStateCode (s.axis 2).state, heldCauseCode (s.axis 2).heldCause, BitVec.ofNat 8 (s.axis 2).queue.length,
        axisStateCode (s.axis 3).state, heldCauseCode (s.axis 3).heldCause, BitVec.ofNat 8 (s.axis 3).queue.length,
        BitVec.ofNat 8 (48 - s.queued), BitVec.ofNat 8 s.reports.records.length, flagByte s.estopActive] ++
        leBytes 2 s.line.timeout ++ [flagByte s.reports.attention] ++ leBytes 4 s.uptime.toNat)) ∧
    exec (.getTime h []) s = .next (s.heard.answered h 0x06 0
      [s.uptime.extractLsb' 0 8, s.uptime.extractLsb' 8 8, s.uptime.extractLsb' 16 8, s.uptime.extractLsb' 24 8]) ∧
    ∀ clear : Bool, exec (.getLinkStats h [flagByte clear]) s = .next
      ((if clear then s.heard.setStats { checkFailures := 0, escapeErrors := 0, oversize := 0, gaps := 0, openings := 0 }
        else s.heard).answered h 0x04 0
        (leBytes 2 s.line.stats.checkFailures ++ leBytes 2 s.line.stats.escapeErrors ++ leBytes 2 s.line.stats.oversize ++
          leBytes 2 s.line.stats.gaps ++ leBytes 2 s.line.stats.openings))

/-- SET_LINK replaces the link timeout and the attention enable when the timeout is 0 or 20 to 60,000 and the enable is 0 or
1: with timeout 0 the timer stops, with another it is restarted, and the link is UP; any other value is a BAD_VALUE (R163). -/
def Obligations.SetLinkReplacesTimeoutAndAttention : Prop :=
  ∀ (h : Header) (t : Nat) (b : Byte) (s : State), s.Takes h → s.Fresh h → t < 65536 →
    exec (.setLink h (leBytes 2 t ++ [b])) s =
      if (t = 0 ∨ (20 ≤ t ∧ t ≤ 60000)) ∧ b.toNat ≤ 1 then
        .next ({ s.heard with
          line := { s.heard.line with
            timeout := t, timer := if t = 0 then none else some (s.uptime + BitVec.ofNat 32 t) }
          reports := { s.reports with attention := decide (b = 1) } }.answered h 0x03 0 [])
      else .next (s.heard.answered h 0x03 3 [])

/-- RESTART is accepted in every state; its reply is built and stored, and until the reply has gone out nothing else changes
(R166). -/
def Obligations.RestartIsAnsweredFirst : Prop :=
  ∀ (h : Header) (s : State), s.Takes h → s.Fresh h →
    exec (.restart h []) s = .next
      { s.heard.replying h [0x05, 0] true with
        line := { (s.heard.replying h [0x05, 0] true).line with cache := some (h.seq, [0x05, 0]) } }

/-! ### The orders of the axis engines -/

/-- SET_AXIS with every field that its bytes can carry: the refusals in their order, BAD_VALUE, CONFIG_CONFLICT, BUSY,
PROFILE_EMPTY; else the whole record of the axis is replaced, and nothing else (R37, R38). GET_AXIS gives back the
record of the axis in the eleven bytes that SET_AXIS carries it in, in every state, and changes nothing (R39). -/
def Obligations.SetAxisAndGetAxisKeepTheConfiguration : Prop :=
  (∀ (h : Header) (a : AxisId) (c : AxisConfig) (s : State), s.Takes h → s.Fresh h → c.fitsBytes →
    exec (.setAxis h (BitVec.ofNat 8 a.val :: configBytes c)) s = .next
      (if c.inRange = false then s.heard.answered h 0x10 3 []
      else if c.maxRate < c.pullInRate ∨ 1000000 < 2 * c.stepPulseWidth * c.maxRate then s.heard.answered h 0x10 12 []
      else if (s.axis a).state = .running ∨ (s.axis a).state = .waiting ∨ (s.axis a).state = .stopping then
        s.heard.answered h 0x10 4 []
      else if ∃ k, c.stopProfile = some k ∧ s.profile k = [] then s.heard.answered h 0x10 6 []
      else (s.heard.setAxis a { s.axis a with config := c }).answered h 0x10 0 [])) ∧
  (∀ (h : Header) (a : AxisId) (s : State), s.Takes h → s.Fresh h →
    ∃ bytes, exec (.getAxis h [BitVec.ofNat 8 a.val]) s = .next (s.heard.answered h 0x11 0 bytes) ∧
      bytes.length = 11 ∧
      ((s.axis a).config.fitsBytes → (s.axis a).config.inRange →
        readConfig (bytes.getD 0 0) (bytes.getD 1 0) (bytes.getD 2 0) (bytes.getD 3 0) (bytes.getD 4 0) (bytes.getD 5 0)
          (bytes.getD 6 0) (bytes.getD 7 0) (bytes.getD 8 0) (bytes.getD 9 0) (bytes.getD 10 0) =
          some (s.axis a).config))

/-- ENABLE is refused while ESTOP is active. Else each named DISABLED axis becomes HELD with DRIVER_ALARM when its
ALARM is active, IDLE when its queue is empty, and HELD with ENABLED otherwise; nothing is activated and no report
admitted, and the reply carries the four states afterwards (R44). DISABLE is refused with BUSY when a named axis is
RUNNING, WAITING or STOPPING. Else each named IDLE or HELD axis becomes DISABLED and keeps its queue, its held cause,
its last end record and its position (R45). -/
def Obligations.EnableAndDisableActOnNamedAxes : Prop :=
  (∀ (h : Header) (m : AxisMask) (s : State), s.Takes h → s.Fresh h →
    exec (.enable h [m.setWidth 8]) s = .next
      (if s.estopActive then s.heard.answered h 0x12 10 []
      else
        let t := s.heard.mapAxes fun a x =>
          if m.getLsbD a.val ∧ x.state = .disabled then
            if s.alarmActive a then { x with state := .held, heldCause := .stopped .driverAlarm, progress := none }
            else if x.queue = [] then { x with state := .idle, heldCause := .none, progress := none }
            else { x with state := .held, heldCause := .enabled, progress := none }
          else x
        t.answered h 0x12 0 [axisStateCode (t.axis 0).state, axisStateCode (t.axis 1).state,
          axisStateCode (t.axis 2).state, axisStateCode (t.axis 3).state])) ∧
  (∀ (h : Header) (m : AxisMask) (s : State), s.Takes h → s.Fresh h →
    exec (.disable h [m.setWidth 8]) s = .next
      (if ∃ a : AxisId, m.getLsbD a.val ∧
          ((s.axis a).state = .running ∨ (s.axis a).state = .waiting ∨ (s.axis a).state = .stopping) then
        s.heard.answered h 0x13 4 []
      else
        let t := s.heard.mapAxes fun a x => if m.getLsbD a.val then { x with state := .disabled } else x
        t.answered h 0x13 0 [axisStateCode (t.axis 0).state, axisStateCode (t.axis 1).state,
          axisStateCode (t.axis 2).state, axisStateCode (t.axis 3).state]))

/-- SET_POSITION of a missing axis is a BAD_VALUE and of a busy axis BUSY; else it loads the counter and changes nothing
else: no trigger fires and the STEP and DIR pins stay. The reply carries the value held before the load (R47). -/
def Obligations.SetPositionLoadsTheCounter : Prop :=
  ∀ (h : Header) (b : Byte) (p : Position) (s : State), s.Takes h → s.Fresh h →
    exec (.setPosition h [b, p.extractLsb' 0 8, p.extractLsb' 8 8, p.extractLsb' 16 8]) s = .next
      (if hb : b.toNat < 4 then
        let a : AxisId := ⟨b.toNat, hb⟩
        if (s.axis a).state = .running ∨ (s.axis a).state = .waiting ∨ (s.axis a).state = .stopping then
          s.heard.answered h 0x14 4 []
        else
          (s.heard.setAxis a { s.axis a with position := p }).answered h 0x14 0
            [(s.axis a).position.extractLsb' 0 8, (s.axis a).position.extractLsb' 8 8,
              (s.axis a).position.extractLsb' 16 8]
      else s.heard.answered h 0x14 3 [])

/-- GET_AXIS_STATE answers with the 28 bytes of R169 in every state and changes nothing; a field that is absent is zeros with
its presence bit clear, and the bits of the presence byte that belong to no field are clear. The steps remaining are present
in RUNNING and STOPPING with a MOVE or GOTO active, and are then the count less the steps taken; that clause is about an axis
in a row of the state table (R40, R41), as AxesAndMeetingsStaySound keeps every axis (R62, R169). -/
def Obligations.GetAxisStateShowsTheAxis : Prop :=
  ∀ (h : Header) (a : AxisId) (s : State), s.Takes h → s.Fresh h →
    let x := s.axis a
    let left : Option Nat := match x.active with
      | some (g, p) => if (x.state = .running ∨ x.state = .stopping) ∧ g.work.counted then
          p.count.map fun n => n - p.stepsTaken else none
      | none => none
    ∃ presence tag kind taken remaining last,
      exec (.getAxisState h [BitVec.ofNat 8 a.val]) s = .next (s.heard.answered h 0x15 0
        ([axisStateCode x.state, phaseCode x.phase, heldCauseCode x.heldCause] ++ positionBytes x.position ++
          leBytes 2 x.currentRate ++ [presence, tag, kind] ++ leBytes 3 taken ++ leBytes 3 remaining ++
          [BitVec.ofNat 8 x.queue.length] ++ last)) ∧
      last.length = 10 ∧
      (presence.getLsbD 0 = x.active.isSome ∧
        match x.active with
        | some (g, p) => tag = g.tag ∧ kind = kindCode g.work.kind ∧ taken = p.stepsTaken
        | none => tag = 0 ∧ kind = 0 ∧ taken = 0) ∧
      (x.fits → presence.getLsbD 1 = left.isSome ∧ remaining = left.getD 0) ∧
      (presence.getLsbD 2 = x.lastEnd.isSome ∧
        match x.lastEnd with
        | some e => last = [e.tag, kindCode e.kind, causeCode e.cause] ++ leBytes 3 e.stepsTaken ++
            positionBytes e.endPosition ++ [BitVec.ofNat 8 e.discarded]
        | none => last = List.replicate 10 0) ∧
      ∀ n, 3 ≤ n → presence.getLsbD n = false

/-- RESUME is refused while ESTOP is active, and with ALARM_ACTIVE when a named HELD axis has its ALARM active. Where
every named HELD axis has an empty queue, each becomes IDLE with held cause NONE, and no other axis is affected (R46).
RESUME of one HELD axis whose head is a DWELL activates it: the axis is WAITING with held cause NONE, and the deadline
is the uptime plus the dwell's time (R46, R48, R53, R91). -/
def Obligations.ResumeTreatsHeldAxes : Prop :=
  (∀ (h : Header) (m : AxisMask) (s : State), s.Takes h → s.Fresh h →
    (s.estopActive = true → exec (.resume h [m.setWidth 8]) s = .next (s.heard.answered h 0x16 10 [])) ∧
    (s.estopActive = false → (∃ a : AxisId, m.getLsbD a.val ∧ (s.axis a).state = .held ∧ s.alarmActive a) →
      exec (.resume h [m.setWidth 8]) s = .next (s.heard.answered h 0x16 11 [])) ∧
    (s.estopActive = false →
      (∀ a : AxisId, m.getLsbD a.val → (s.axis a).state = .held → s.alarmActive a = false ∧ (s.axis a).queue = []) →
      ∃ n, exec (.resume h [m.setWidth 8]) s = .next
        (let t := State.mapAxes { s.heard with freeCount := n } fun a x =>
          if m.getLsbD a.val ∧ x.state = .held then { x with state := .idle, heldCause := .none, progress := none } else x
        t.answered h 0x16 0 [axisStateCode (t.axis 0).state, axisStateCode (t.axis 1).state,
          axisStateCode (t.axis 2).state, axisStateCode (t.axis 3).state]))) ∧
  (∀ (h : Header) (a : AxisId) (g : Segment) (rest : List Segment) (time : Nat) (s : State), s.Takes h → s.Fresh h →
    s.estopActive = false → s.alarmActive a = false → (s.axis a).state = .held → (s.axis a).queue = g :: rest →
    g.work = .dwell time →
    exec (.resume h [(axisBit a).setWidth 8]) s = .next
      (let t := s.heard.setAxis a { s.axis a with
          state := .waiting
          heldCause := .none
          progress := some
            { direction := none, plan := { legs := [], leg := 0, inLeg := 0 }, count := none, stepsTaken := 0, walk := none
              walkProfile := none, recordedCause := none, flushPending := false, homeDetected := false
              deadline := some (s.uptime + BitVec.ofNat 32 time), rate := 0 } }
      t.answered h 0x16 0 [axisStateCode (t.axis 0).state, axisStateCode (t.axis 1).state,
        axisStateCode (t.axis 2).state, axisStateCode (t.axis 3).state]))

/-- STOP of axes that are DISABLED, IDLE or HELD: with HOLD nothing changes; with FLUSH the queue of a HELD axis is flushed
and it becomes IDLE, and that of a DISABLED axis is flushed and it stays DISABLED with its held cause. No segment ends and no
report is admitted (R74). -/
def Obligations.StopOfRestingAxesOnlyFlushes : Prop :=
  ∀ (h : Header) (m : AxisMask) (mode flush : Bool) (s : State), s.Takes h → s.Fresh h →
    (∀ a : AxisId, m.getLsbD a.val → (s.axis a).busy = false) →
    (∀ a : AxisId, (s.axis a).state = .idle → (s.axis a).queue = []) →
    ∃ n, exec (.stop h [m.setWidth 8, flagByte mode, flagByte flush]) s = .next
      (let t := State.mapAxes { s.heard with freeCount := n } fun a x =>
        if m.getLsbD a.val ∧ flush then
          { x with
            queue := []
            state := if x.state = .held then .idle else x.state
            heldCause := if x.state = .held then .none else x.heldCause
            progress := if x.state = .held then none else x.progress }
        else x
      t.answered h 0x17 0 [axisStateCode (t.axis 0).state, axisStateCode (t.axis 1).state,
        axisStateCode (t.axis 2).state, axisStateCode (t.axis 3).state])

/-- A STOP ABRUPT of one RUNNING axis, or any STOP of one WAITING axis, ends its segment at the order with
STOPPED_BY_ORDER: the last end record and the SEGMENT_DONE report carry the segment, the steps taken, the position and the
number discarded; with HOLD the rest of the queue is kept and the axis HELD, with FLUSH the rest is discarded and the axis
IDLE (R59 to R61, R69, R70, R74). -/
def Obligations.StopEndsTheActiveSegment : Prop :=
  ∀ (h : Header) (a : AxisId) (abrupt flush : Bool) (g : Segment) (rest : List Segment) (p : Progress) (s : State),
    s.Takes h → s.Fresh h → (s.axis a).queue = g :: rest → (s.axis a).progress = some p → p.flushPending = false →
    ((s.axis a).state = .running ∧ abrupt = true ∨ (s.axis a).state = .waiting) →
    (∀ r ∈ s.joins, r.here a = false) →
    exec (.stop h [(axisBit a).setWidth 8, flagByte abrupt, flagByte flush]) s = .next
      (let e : EndRecord := { tag := g.tag, kind := g.work.kind, cause := .stoppedByOrder, stepsTaken := p.stepsTaken
                              endPosition := (s.axis a).position, discarded := if flush then rest.length else 0 }
      let t := admitReport (.segmentDone a e) (s.heard.setAxis a { s.axis a with
        state := if flush then .idle else .held
        heldCause := if flush then .none else .stopped .stoppedByOrder
        queue := if flush then [] else rest
        lastEnd := some e
        progress := none })
      t.answered h 0x17 0 [axisStateCode (t.axis 0).state, axisStateCode (t.axis 1).state,
        axisStateCode (t.axis 2).state, axisStateCode (t.axis 3).state])

/-- A STOP RAMPED of one RUNNING axis whose stop profile has a stage below the current rate, with steps of the count left,
begins a stop walk: the stages below the current rate, in descending order, cut at the segment's last planned step (R30, R32,
R34, R67). -/
def Obligations.RampedStopBeginsTheWalk : Prop :=
  ∀ (h : Header) (a : AxisId) (flush : Bool) (g : Segment) (rest : List Segment) (p : Progress) (k : ProfileId) (l : Leg)
    (ls : List Leg) (s : State),
    s.Takes h → s.Fresh h → (s.axis a).state = .running → (s.axis a).queue = g :: rest →
    (s.axis a).progress = some p → p.flushPending = false →
    (g.work.profile = some k ∨ (g.work.profile = none ∧ (s.axis a).config.stopProfile = some k)) →
    (let stages := ((s.profile k).filter fun x => decide (x.rate < p.rate)).reverse
     let kept := match p.count with
       | some n => takeSteps (n - p.stepsTaken) stages
       | none => stages
     kept.map (fun x => Leg.mk .stopWalk x.rate (some x.steps)) = l :: ls) →
    exec (.stop h [(axisBit a).setWidth 8, 0, flagByte flush]) s = .next
      (let t := s.heard.setAxis a { s.axis a with
        state := .stopping
        progress := some { p with
          walk := some { legs := l :: ls, leg := 0, inLeg := 0 }, walkProfile := some k
          recordedCause := some .stoppedByOrder, flushPending := flush } }
      t.answered h 0x17 0 [axisStateCode (t.axis 0).state, axisStateCode (t.axis 1).state,
        axisStateCode (t.axis 2).state, axisStateCode (t.axis 3).state])

/-! ### The orders of the segment pool -/

/-- QUEUE_SEGMENT with every segment that its bytes can carry, for an axis that is not IDLE: BAD_VALUE when a field is
out of range, PROFILE_EMPTY, POOL_FULL; else the segment is appended at the tail and nothing else changes, and the
reply carries the queue's length and the free slots after it (R7, R10 to R12, R14). A segment queued to an IDLE axis
while ESTOP or the axis's ALARM is active is not activated: it waits at the head and the axis becomes HELD with held
cause ESTOP, or DRIVER_ALARM (R13, R48). -/
def Obligations.QueueSegmentAppendsAndWaits : Prop :=
  (∀ (h : Header) (a : AxisId) (g : Segment) (s : State), s.Takes h → s.Fresh h → g.work.fitsBytes →
    (s.axis a).state ≠ .idle →
    exec (.queueSegment h (segmentBytes a g)) s = .next
      (if g.work.inRange a = false then s.heard.answered h 0x20 3 []
      else if ∃ k, g.work.profile = some k ∧ s.profile k = [] then s.heard.answered h 0x20 6 []
      else if 48 ≤ s.queued then s.heard.answered h 0x20 5 []
      else (s.heard.setAxis a { s.axis a with queue := (s.axis a).queue ++ [g] }).answered h 0x20 0
        [BitVec.ofNat 8 ((s.axis a).queue.length + 1), BitVec.ofNat 8 (47 - s.queued)])) ∧
  (∀ (h : Header) (a : AxisId) (g : Segment) (s : State), s.Takes h → s.Fresh h → g.work.fitsBytes → g.work.inRange a →
    (∀ k, g.work.profile = some k → s.profile k ≠ []) → s.queued < 48 → (s.axis a).state = .idle →
    (s.axis a).queue = [] → (s.estopActive = true ∨ s.alarmActive a = true) →
    exec (.queueSegment h (segmentBytes a g)) s = .next
      ((s.heard.setAxis a { s.axis a with
        queue := [g]
        state := .held
        heldCause := .stopped (if s.estopActive then .estop else .driverAlarm)
        progress := none }).answered h 0x20 0 [1, BitVec.ofNat 8 (47 - s.queued)]))

/-- A MOVE queued to an IDLE axis that passes its checks starts at once: the axis is RUNNING on the plan of its count, has
issued the plan's first step at the starting rate, and the position has moved by one in the segment's direction. No other axis
changes, and the reply shows the queue before any of that (R12, R13, R26, R53, R56). -/
def Obligations.QueuedMoveStartsAtOnce : Prop :=
  ∀ (h : Header) (a : AxisId) (tag : Byte) (report negative : Bool) (count rate : Nat) (profile : Option ProfileId)
    (s : State),
    s.Takes h → s.Fresh h → s.ProfilesSound → countInRange count → rateInRange rate →
    (∀ k, profile = some k → s.profile k ≠ []) → s.queued < 48 → (s.axis a).state = .idle → (s.axis a).queue = [] →
    s.estopActive = false → s.alarmActive a = false → s.accepted (.axis a .slow) = false →
    s.accepted (.axis a (if negative then .limn else .limp)) = false →
    (let used := (s.stagesOf profile).filter fun x => decide (x.rate < rate)
     let first := match used with
       | x :: _ => x.rate
       | [] => rate
     rate ≤ (s.axis a).config.maxRate → first ≤ (s.axis a).config.pullInRate →
     (∀ i f, (s.trigger i).fields = some f → (s.trigger i).state = .armed → f.axis ≠ a) →
     let g : Segment := { tag := tag, report := report, work := .move count rate profile negative }
     ∃ t p, exec (.queueSegment h (segmentBytes a g)) s = .next t ∧
      t.line = (s.heard.answered h 0x20 0 [1, BitVec.ofNat 8 (47 - s.queued)]).line ∧
      (t.axis a).state = .running ∧ (t.axis a).queue = [g] ∧ (t.axis a).heldCause = .none ∧
      (t.axis a).position = (s.axis a).position + (if negative then -1 else 1) ∧
      (t.axis a).pulsesWaiting = (s.axis a).pulsesWaiting + 1 ∧
      (t.axis a).logicalDir = (if negative then .negative else .positive) ∧
      (t.axis a).progress = some p ∧ p.plan.legs = countedPlan used rate count ∧ p.plan.issued = 1 ∧
      p.count = some count ∧ p.stepsTaken = 1 ∧ p.rate = first ∧
      (∀ b, b ≠ a → t.axis b = s.axis b) ∧ t.joins = s.joins ∧ t.triggers = s.triggers ∧ t.outputs = s.outputs ∧
      t.pwm = s.pwm ∧ t.reports = s.reports ∧ t.inputs = s.inputs ∧ t.profiles = s.profiles ∧ t.uptime = s.uptime)

/-- FLUSH_QUEUE is refused with BUSY when a named axis is RUNNING, WAITING or STOPPING. Else every named queue is
emptied, a named HELD axis becomes IDLE with held cause NONE, and the reply counts what was discarded from each axis
(R15, R16). PEEK_QUEUE answers with the queue's length, the number of entries, the start index and up to 20 entries of
tag and kind from that index on, and changes nothing (R17). -/
def Obligations.FlushQueueEmptiesAndPeekQueueLists : Prop :=
  (∀ (h : Header) (m : AxisMask) (s : State), s.Takes h → s.Fresh h →
    exec (.flushQueue h [m.setWidth 8]) s = .next
      (if ∃ a : AxisId, m.getLsbD a.val ∧
          ((s.axis a).state = .running ∨ (s.axis a).state = .waiting ∨ (s.axis a).state = .stopping) then
        s.heard.answered h 0x21 4 []
      else
        (s.heard.mapAxes fun a x =>
          if m.getLsbD a.val then
            { x with
              queue := []
              state := if x.state = .held then .idle else x.state
              heldCause := if x.state = .held then .none else x.heldCause
              progress := if x.state = .held then none else x.progress }
          else x).answered h 0x21 0
          ([0, 1, 2, 3].map fun a : AxisId => if m.getLsbD a.val then BitVec.ofNat 8 (s.axis a).queue.length else 0))) ∧
  (∀ (h : Header) (a : AxisId) (start : Byte) (s : State), s.Takes h → s.Fresh h →
    ∃ entries : List (Byte × Byte),
      exec (.peekQueue h [BitVec.ofNat 8 a.val, start]) s = .next (s.heard.answered h 0x22 0
        ([BitVec.ofNat 8 (s.axis a).queue.length, BitVec.ofNat 8 entries.length, start] ++
          entries.flatMap fun e => [e.1, e.2])) ∧
      entries.length = min 20 ((s.axis a).queue.length - start.toNat) ∧
      ∀ i, i < entries.length → ∃ g, (s.axis a).queue[start.toNat + i]? = some g ∧
        entries[i]? = some (g.tag, kindCode g.work.kind))

/-! ### The orders of the profile library -/

/-- DEFINE_PROFILE of a stage list whose quantities fit their bytes: BAD_VALUE unless it has 1 to 16 stages in range
with strictly ascending rates; PROFILE_IN_USE when a queued segment names the profile or a stop walk was taken from
it; else the profile becomes the list, and the reply carries the number of stages and the sum of their steps (R20 to
R23). READ_PROFILE gives the profile's state, stage count and stages back and changes nothing; DROP_PROFILE is refused
with PROFILE_IN_USE while a segment, a walk or an axis configuration names the profile, and else empties it and
carries the state it had (R22, R24, R25). -/
def Obligations.ProfileOrdersActOnTheLibrary : Prop :=
  (∀ (h : Header) (k : ProfileId) (l : List Stage) (s : State), s.Takes h → s.Fresh h → l.length ≤ 19 →
    (∀ x ∈ l, x.rate < 65536 ∧ x.steps < 256) →
    exec (.defineProfile h (BitVec.ofNat 8 k.val :: BitVec.ofNat 8 l.length :: stageBytes l)) s = .next
      (if l = [] ∨ 16 < l.length ∨ l.all Stage.inRange = false ∨ ¬ (l.map Stage.rate).Pairwise (· < ·) then
        s.heard.answered h 0x30 3 []
      else if (∃ a : AxisId, ∃ g ∈ (s.axis a).queue, g.work.profile = some k) ∨
          (∃ a : AxisId, (s.axis a).state = .stopping ∧ ∃ p, (s.axis a).progress = some p ∧ p.walkProfile = some k) then
        s.heard.answered h 0x30 7 []
      else (s.heard.setProfile k l).answered h 0x30 0
        (BitVec.ofNat 8 l.length :: leBytes 2 (l.map Stage.steps).sum))) ∧
  (∀ (h : Header) (k : ProfileId) (s : State), s.Takes h → s.Fresh h →
    exec (.readProfile h [BitVec.ofNat 8 k.val]) s = .next (s.heard.answered h 0x31 0
      ([if s.profile k = [] then 0 else 1, BitVec.ofNat 8 (s.profile k).length] ++ stageBytes (s.profile k))) ∧
    exec (.dropProfile h [BitVec.ofNat 8 k.val]) s = .next
      (if (∃ a : AxisId, ∃ g ∈ (s.axis a).queue, g.work.profile = some k) ∨
          (∃ a : AxisId, (s.axis a).state = .stopping ∧ ∃ p, (s.axis a).progress = some p ∧ p.walkProfile = some k) ∨
          (∃ a : AxisId, (s.axis a).config.stopProfile = some k) then
        s.heard.answered h 0x32 7 []
      else (s.heard.setProfile k []).answered h 0x32 0 [if s.profile k = [] then 0 else 1]))

/-! ### The orders of the trigger table -/

/-- SET_TRIGGER with every trigger that its bytes can carry: BAD_VALUE when an OUT_PULSE width is 0, TRIGGER_ARMED
when the slot is ARMED; else the slot's fields are replaced, its count is 0, and it is ARMED or DISARMED as arm-now
says (R111). READ_TRIGGER gives the slot's state, fire count and fields back, zeros for a FREE slot, and changes
nothing; the field bytes are those that SET_TRIGGER reads (R115, R171). -/
def Obligations.SetTriggerWritesAndReadTriggerShowsTheSlot : Prop :=
  (∀ (h : Header) (i : Fin 24) (f : TriggerFields) (armNow : Bool) (s : State), s.Takes h → s.Fresh h →
    f.action.fitsBytes →
    exec (.setTrigger h ([BitVec.ofNat 8 i.val] ++ triggerFieldBytes (some f) ++ [flagByte armNow])) s = .next
      (if f.action.inRange = false then s.heard.answered h 0x40 3 []
      else if (s.trigger i).state = .armed then s.heard.answered h 0x40 8 []
      else
        (s.heard.setTrigger i { state := if armNow then .armed else .disarmed, fields := some f, fireCount := 0 }).answered
          h 0x40 0 [if armNow then 2 else 1])) ∧
  (∀ (h : Header) (i : Fin 24) (s : State), s.Takes h → s.Fresh h →
    ∃ b : List Byte, b.length = 11 ∧
      exec (.readTrigger h [BitVec.ofNat 8 i.val]) s = .next (s.heard.answered h 0x44 0
        ([slotStateCode (s.trigger i).state] ++ leBytes 2 (s.trigger i).fireCount ++ b)) ∧
      match (s.trigger i).fields with
      | none => b = List.replicate 11 0
      | some f => f.action.fitsBytes → f.action.inRange →
        readTriggerFields (b.getD 0 0) (b.getD 1 0) (b.getD 2 0) (b.getD 3 0) (b.getD 4 0) (b.getD 5 0) (b.getD 6 0)
          (b.getD 7 0) (b.getD 8 0) (b.getD 9 0) (b.getD 10 0) = some f)

/-- ARM_TRIGGERS is refused with TRIGGER_FREE when a named slot is FREE, else arms every named slot; DISARM_TRIGGERS disarms
every named ARMED slot; CLEAR_TRIGGERS is refused with TRIGGER_ARMED when a named slot is ARMED, else frees every named slot.
Fields and counts are kept but by CLEAR_TRIGGERS, and each reply carries the mask of the slots ARMED afterwards (R112 to
R114). -/
def Obligations.TriggerMasksActOnNamedSlots : Prop :=
  ∀ (h : Header) (m : SlotMask) (s : State), s.Takes h → s.Fresh h →
    let bytes : List Byte := [m.extractLsb' 0 8, m.extractLsb' 8 8, m.extractLsb' 16 8]
    (∃ armedAfter : SlotMask, exec (.armTriggers h bytes) s = .next
      (if ∃ i : Fin 24, m.getLsbD i.val ∧ (s.trigger i).state = .free then s.heard.answered h 0x41 9 []
      else (s.heard.mapSlots fun i t => if m.getLsbD i.val then { t with state := .armed } else t).answered h 0x41 0
        [armedAfter.extractLsb' 0 8, armedAfter.extractLsb' 8 8, armedAfter.extractLsb' 16 8]) ∧
      ∀ i : Fin 24, armedAfter.getLsbD i.val =
        decide (m.getLsbD i.val = true ∨ (s.trigger i).state = .armed)) ∧
    (∃ armedAfter : SlotMask, exec (.disarmTriggers h bytes) s = .next
      ((s.heard.mapSlots fun i t =>
        if m.getLsbD i.val ∧ t.state = .armed then { t with state := .disarmed } else t).answered h 0x42 0
        [armedAfter.extractLsb' 0 8, armedAfter.extractLsb' 8 8, armedAfter.extractLsb' 16 8]) ∧
      ∀ i : Fin 24, armedAfter.getLsbD i.val =
        decide (m.getLsbD i.val = false ∧ (s.trigger i).state = .armed)) ∧
    ∃ armedAfter : SlotMask, exec (.clearTriggers h bytes) s = .next
      (if ∃ i : Fin 24, m.getLsbD i.val ∧ (s.trigger i).state = .armed then s.heard.answered h 0x43 8 []
      else
        (s.heard.mapSlots fun i t =>
          if m.getLsbD i.val then { state := .free, fields := none, fireCount := 0 } else t).answered h 0x43 0
          [armedAfter.extractLsb' 0 8, armedAfter.extractLsb' 8 8, armedAfter.extractLsb' 16 8]) ∧
      ∀ i : Fin 24, armedAfter.getLsbD i.val =
        decide (m.getLsbD i.val = false ∧ (s.trigger i).state = .armed)

/-! ### The orders of the output block -/

/-- SET_OUTPUTS with a level for an output it does not name is a BAD_VALUE; else each named output takes its level and
its pulse timer stops, in every state of the part, and the reply carries the eight levels (R126). PULSE_OUTPUT of a
missing output or of width 0 is a BAD_VALUE; else the output becomes active and its pulse timer is started or
replaced, and the reply says whether one was running (R127). -/
def Obligations.SetOutputsAndPulseOutputWriteTheLevels : Prop :=
  (∀ (h : Header) (m levels : Byte) (s : State), s.Takes h → s.Fresh h →
    if levels &&& ~~~m = 0 then
      ∃ after : Byte, exec (.setOutputs h [m, levels]) s = .next
        ((s.heard.mapOutputs fun n o =>
          if m.getLsbD n.val then { o with level := levels.getLsbD n.val, deadline := none } else o).answered h 0x50 0
          [after]) ∧
        ∀ n : Fin 8, after.getLsbD n.val = if m.getLsbD n.val then levels.getLsbD n.val else (s.output n).level
    else exec (.setOutputs h [m, levels]) s = .next (s.heard.answered h 0x50 3 [])) ∧
  (∀ (h : Header) (b : Byte) (w : Nat) (s : State), s.Takes h → s.Fresh h → w < 65536 →
    exec (.pulseOutput h (b :: leBytes 2 w)) s = .next
      (if hb : b.toNat < 8 ∧ 1 ≤ w then
        let n : Fin 8 := ⟨b.toNat, hb.1⟩
        (s.heard.setOutput n { s.output n with
          level := true, deadline := some (s.uptime + BitVec.ofNat 32 w) }).answered h 0x51 0
          [if (s.output n).deadline.isSome then 1 else 0]
      else s.heard.answered h 0x51 3 []))

/-- SET_OUTPUT_CONFIG with a link-loss level of 3 or a stray bit is a BAD_VALUE; else every polarity, link-loss level and
link-loss behaviour is replaced, and levels, timers and channels stay as they are (R125, R169). -/
def Obligations.SetOutputConfigReplacesTheConfiguration : Prop :=
  ∀ (h : Header) (polarity : Byte) (levels : BitVec 16) (pwm : Byte) (s : State), s.Takes h → s.Fresh h →
    exec (.setOutputConfig h [polarity, levels.extractLsb' 0 8, levels.extractLsb' 8 8, pwm]) s = .next
      (if (∃ n : Fin 8, levels.extractLsb' (2 * n.val) 2 = 3#2) ∨ 4 ≤ pwm.toNat then s.heard.answered h 0x52 3 []
      else
        ((s.heard.mapOutputs fun n o =>
          { o with
            activeLow := polarity.getLsbD n.val
            lossLevel := if levels.extractLsb' (2 * n.val) 2 = 0#2 then .keep
              else if levels.extractLsb' (2 * n.val) 2 = 1#2 then .active else .inactive }).mapChannels fun c x =>
          { x with offOnLoss := pwm.getLsbD c.val }).answered h 0x52 0 [])

/-- SET_PWM: BAD_VALUE for a period below 20 or a duty above the period. Enabling a disabled channel makes the record
active at once and begins a period; on an enabled channel the record becomes pending; disabling makes the pin
inactive, discards a pending record and keeps the active one; disabling a disabled channel changes nothing (R130,
R131). GET_PWM answers with the enabled flag, the active record and the pending record, and changes nothing. The four
bytes of an absent pending record are free: the spec states no value, and the statement holds for every one
(notes/assumptions/8.md). -/
def Obligations.SetPwmWritesAndGetPwmShowsTheChannel : Prop :=
  (∀ (h : Header) (c : Fin 2) (enable : Bool) (period duty : Nat) (s : State), s.Takes h → s.Fresh h → period < 65536 →
    duty < 65536 →
    exec (.setPwm h ([BitVec.ofNat 8 c.val, flagByte enable] ++ leBytes 2 period ++ leBytes 2 duty)) s = .next
      (if period < 20 ∨ period < duty then s.heard.answered h 0x53 3 []
      else
        (s.heard.setChannel c
          (match enable, (s.channel c).enabled with
            | true, false =>
              { s.channel c with
                enabled := true, active := { period := period, duty := duty }, pending := none
                pinActive := decide (0 < duty) }
            | true, true => { s.channel c with pending := some { period := period, duty := duty } }
            | false, true => { s.channel c with enabled := false, pending := none, pinActive := false }
            | false, false => s.channel c)).answered h 0x53 0 [])) ∧
  (∀ (h : Header) (c : Fin 2) (s : State), s.Takes h → s.Fresh h →
    ∃ (last : List Byte) (n : Nat),
      exec (.getPwm h [BitVec.ofNat 8 c.val]) s = .next ({ s.heard with freeCount := n }.answered h 0x54 0
        ([flagByte (s.channel c).enabled] ++ leBytes 2 (s.channel c).active.period ++
          leBytes 2 (s.channel c).active.duty ++ [flagByte (s.channel c).pending.isSome] ++ last)) ∧
      last.length = 4 ∧
      ∀ r, (s.channel c).pending = some r → last = leBytes 2 r.period ++ leBytes 2 r.duty ∧ n = s.freeCount)

/-! ### The orders of the input block and the report queue -/

/-- SET_INPUT_CONFIG replaces polarities, filters and flags. Where every filter value is 1 to 15 ms no accepted level changes
at the order: an input whose raw level then differs from its accepted level waits in its filter, from the order on when the
polarity or the filter has changed, else to the deadline it had, and one whose levels agree waits for nothing. An input whose
filter value is 0 takes its raw level at the order when its polarity or its filter has changed (R140). -/
def Obligations.SetInputConfigFiltersAfresh : Prop :=
  ∀ (h : Header) (c : InputConfig) (s : State), s.Takes h → s.Fresh h → s.InputsSound → c.FiltersFit →
    (∃ t : State, exec (.setInputConfig h c.bytes) s = .next (t.answered h 0x55 0 []) ∧ t.line = s.heard.line ∧
      t.inputs.axisFilter = c.axisFilter ∧ t.inputs.generalFilter = c.generalFilter ∧
      t.inputs.reportOnChange = c.reportOnChange ∧ t.input .estop = s.input .estop ∧
      ∀ i ∈ configurableInputs, (t.input i).activeHigh = c.activeHigh i ∧ (t.input i).pinHigh = (s.input i).pinHigh ∧
        (t.filterTime i = 0 → (s.filterTime i ≠ 0 ∨ (s.input i).activeHigh ≠ c.activeHigh i) →
          (t.input i).accepted = (t.input i).raw ∧ (t.input i).pending = none)) ∧
    ((∀ a : Fin 4, 1 ≤ c.axisFilter[a] ∧ 1 ≤ c.generalFilter[a]) →
      ∃ t : State, exec (.setInputConfig h c.bytes) s = .next (t.answered h 0x55 0 []) ∧
        t = { s.heard with inputs := t.inputs } ∧
        ∀ i ∈ configurableInputs, (t.input i).accepted = (s.input i).accepted ∧
          (t.input i).pending =
            if (t.input i).raw = (t.input i).accepted then none
            else if (t.input i).activeHigh = (s.input i).activeHigh ∧ t.filterTime i = s.filterTime i then
              (s.input i).pending
            else some (s.uptime + BitVec.ofNat 32 (t.filterTime i)))

/-- GET_IO answers with the accepted level of every input, the level of every output and the ENA level of every axis, and
changes nothing (R141, R169). -/
def Obligations.GetIoShowsTheLevels : Prop :=
  ∀ (h : Header) (s : State), s.Takes h → s.Fresh h →
    ∃ (axisBytes : Vector Byte 4) (general outputs ena : Byte),
      exec (.getIo h []) s = .next (s.heard.answered h 0x56 0 (axisBytes.toList ++ [general, outputs, ena])) ∧
      (∀ (a : AxisId) (n : Fin 8), axisBytes[a].getLsbD n.val =
        match n.val with
        | 0 => s.accepted (.axis a .limp)
        | 1 => s.accepted (.axis a .limn)
        | 2 => s.accepted (.axis a .slow)
        | 3 => s.accepted (.axis a .home)
        | 4 => s.accepted (.axis a .alarm)
        | _ => false) ∧
      (∀ n : Fin 8, general.getLsbD n.val =
        if hn : n.val < 4 then s.accepted (.general ⟨n.val, hn⟩) else if n.val = 7 then s.estopActive else false) ∧
      (∀ n : Fin 8, outputs.getLsbD n.val = (s.output n).level) ∧
      ∀ n : Fin 8, ena.getLsbD n.val = if hn : n.val < 4 then decide ((s.axis ⟨n.val, hn⟩).state ≠ .disabled) else false

/-- DISCARD_REPORTS removes every record and clears the dropped count; the next number is kept, and the reply carries the
number removed and the dropped count before (R150). ATTN is released (R151). -/
def Obligations.DiscardReportsEmptiesTheQueue : Prop :=
  ∀ (h : Header) (s : State), s.Takes h → s.Fresh h →
    ∃ t, exec (.discardReports h []) s = .next t ∧
      t = { s.heard with reports := { s.reports with records := [], dropped := 0 } }.answered h 0x60 0
        [BitVec.ofNat 8 s.reports.records.length, BitVec.ofNat 8 s.reports.dropped] ∧
      t.attnAsserted = false

/-! ### Time, outputs and channels -/

/-- A TICK adds one to the uptime and does nothing else (R142). A PULSE_END whose deadline is the uptime makes its output
inactive and stops its timer, and does nothing at any other uptime (R127). At a PERIOD_BOUNDARY of an enabled channel a
pending record becomes active, its duty clamped to its period, and the pin is active when the duty is not 0; at the end of a
duty below the period the pin becomes inactive (R130). That the expiries of one tick are commands of their own is the model's
choice (notes/assumptions/3.md). -/
def Obligations.TickAndOutputTimersAct : Prop :=
  (∀ s : State, s.resetHeld = none → exec .tick s = .next { s with uptime := s.uptime + 1 }) ∧
    (∀ (n : Fin 8) (s : State), s.resetHeld = none →
      exec (.pulseEnd n) s = .next
        (if (s.output n).deadline = some s.uptime then
          s.setOutput n { s.output n with level := false, deadline := none }
        else s)) ∧
    (∀ (c : Fin 2) (s : State), s.resetHeld = none → (s.channel c).enabled = true →
      exec (.periodBoundary c) s = .next (s.setChannel c
        (match (s.channel c).pending with
          | some r =>
            { s.channel c with
              active := { period := r.period, duty := min r.duty r.period }, pending := none
              pinActive := decide (0 < min r.duty r.period) }
          | none => { s.channel c with pinActive := decide (0 < (s.channel c).active.duty) }))) ∧
    ∀ (c : Fin 2) (s : State), s.resetHeld = none → (s.channel c).enabled = true →
      exec (.pwmDutyEnd c) s = .next
        (if (s.channel c).active.duty < (s.channel c).active.period then
          s.setChannel c { s.channel c with pinActive := false }
        else s)

/-! ### Waits -/

/-- A DWELL whose deadline is the uptime ends COMPLETE: the last end record is written, SEGMENT_DONE is admitted when its
REPORT flag is set, and the axis goes on to its next segment at the same event, here another DWELL, or becomes IDLE (R59,
R60, R61, R91). That at any other uptime the command changes nothing is the model's choice (notes/assumptions/1.md and
3.md). -/
def Obligations.DwellEndsAtItsDeadline : Prop :=
  ∀ (a : AxisId) (g : Segment) (rest : List Segment) (p : Progress) (time : Nat) (s : State), s.resetHeld = none →
    (s.axis a).state = .waiting → (s.axis a).queue = g :: rest → (s.axis a).progress = some p → g.work = .dwell time →
    p.flushPending = false → (∀ r ∈ s.joins, r.here a = false) →
    let e : EndRecord :=
      { tag := g.tag, kind := .dwell, cause := .complete, stepsTaken := p.stepsTaken, endPosition := (s.axis a).position
        discarded := 0 }
    let reported : State := if g.report then admitReport (.segmentDone a e) s else s
    (p.deadline ≠ some s.uptime → exec (.dwellEnd a) s = .next s) ∧
    (p.deadline = some s.uptime → rest = [] →
      exec (.dwellEnd a) s = .next (reported.setAxis a { s.axis a with
        state := .idle, heldCause := .none, queue := [], lastEnd := some e, progress := none })) ∧
    ∀ (g2 : Segment) (rest2 : List Segment) (time2 : Nat), p.deadline = some s.uptime → rest = g2 :: rest2 →
      g2.work = .dwell time2 → s.estopActive = false → s.alarmActive a = false →
      exec (.dwellEnd a) s = .next (reported.setAxis a { s.axis a with
        state := .waiting
        heldCause := .none
        queue := rest
        lastEnd := some e
        progress := some
          { direction := none, plan := { legs := [], leg := 0, inLeg := 0 }, count := none, stepsTaken := 0, walk := none
            walkProfile := none, recordedCause := none, flushPending := false, homeDetected := false
            deadline := some (s.uptime + BitVec.ofNat 32 time2), rate := 0 } })

/-- A WAIT_INPUT whose timeout deadline is the uptime ends INPUT_TIMEOUT: the axis is HELD with that cause and the rest of
its queue, and SEGMENT_DONE is admitted whatever its REPORT flag (R59, R61, R95). The join unit then breaks every open record
in which the axis is a member: the JOIN of each arrived member ends JOIN_BROKEN and its axis is HELD with that cause (R102,
R104); no record is opened or changed. -/
def Obligations.InputTimeoutHoldsAndBreaksMeetings : Prop :=
  ∀ (a : AxisId) (g : Segment) (rest : List Segment) (p : Progress) (i : Fin 4) (wanted : Bool) (timeout : Nat)
    (s : State), s.resetHeld = none → s.AxesFit → s.JoinsSound →
    (s.axis a).state = .waiting → (s.axis a).queue = g :: rest → (s.axis a).progress = some p →
    g.work = .waitInput i wanted timeout → p.deadline = some s.uptime →
    let e : EndRecord :=
      { tag := g.tag, kind := .waitInput, cause := .inputTimeout, stepsTaken := 0, endPosition := (s.axis a).position
        discarded := 0 }
    ∃ t, exec (.inputTimeout a) s = .next t ∧
      t.axis a = { s.axis a with
        state := .held, heldCause := .stopped .inputTimeout, queue := rest, lastEnd := some e, progress := none } ∧
      (∀ r ∈ t.joins, r ∈ s.joins ∧ r.member a = false) ∧
      (∀ r ∈ s.joins, r.member a → ∀ b : AxisId, r.here b →
        (t.axis b).state = .held ∧ (t.axis b).heldCause = .stopped .joinBroken ∧
          (t.axis b).queue = (s.axis b).queue.tail) ∧
      ((∀ r ∈ s.joins, r.member a = false) → t.joins = s.joins ∧ (∀ b, b ≠ a → t.axis b = s.axis b) ∧
        t.reports = (admitReport (.segmentDone a e) s).reports)

/-! ### Inputs -/

/-- A change of a pin that its input's filter delays starts a filter time when the raw level then differs from the accepted
one, and discards a pending acceptance when it does not (R135). With a filter time of 0 the accepted level takes the raw
level at the pin's event, with the effects of an acceptance that is due then, which AcceptedLevelsAreHandedOn and
EstopStopsEveryAxis state (R135, R137). A strap pin's change is held for the next reset (R153); a pin that takes the level it
has changes nothing. -/
def Obligations.PinChangesWaitInTheFilter : Prop :=
  (∀ (i : InputId) (high : Bool) (s : State), (s.input i).pinHigh = high → exec (.rawChange (.input i) high) s = .next s) ∧
    (∀ (i : InputId) (high : Bool) (s : State), s.resetHeld = none → (s.input i).pinHigh ≠ high → 1 ≤ s.filterTime i →
      exec (.rawChange (.input i) high) s = .next (s.setInput i { s.input i with
        pinHigh := high
        pending := if (high == (s.input i).activeHigh) = (s.input i).accepted then none
          else some (s.uptime + BitVec.ofNat 32 (s.filterTime i)) })) ∧
    (∀ (i : InputId) (high : Bool) (s : State), s.resetHeld = none → (s.input i).pinHigh ≠ high → s.filterTime i = 0 →
      if (high == (s.input i).activeHigh) = (s.input i).accepted then
        exec (.rawChange (.input i) high) s =
          .next (s.setInput i { s.input i with pinHigh := high, pending := none })
      else
        exec (.rawChange (.input i) high) s = exec (.filterAcceptance i)
          (s.setInput i { s.input i with pinHigh := high, pending := some s.uptime }) ∧
        ∃ t, exec (.rawChange (.input i) high) s = .next t ∧
          t.input i = { s.input i with pinHigh := high, accepted := (high == (s.input i).activeHigh), pending := none } ∧
          ∀ j, j ≠ i → t.input j = s.input j) ∧
    (∀ (b : Fin 5) (high : Bool) (s : State), ∃ v : BitVec 5,
      exec (.rawChange (.addressStrap b) high) s = .next { s with line := { s.line with addressPins := v } } ∧
        ∀ j : Fin 5, v.getLsbD j.val = if j = b then high else s.line.addressPins.getLsbD j.val) ∧
    ∀ (b : Fin 2) (high : Bool) (s : State), ∃ v : BitVec 2,
      exec (.rawChange (.speedStrap b) high) s = .next { s with line := { s.line with speedPins := v } } ∧
        ∀ j : Fin 2, v.getLsbD j.val = if j = b then high else s.line.speedPins.getLsbD j.val

/-- A pending acceptance whose deadline is the uptime gives the input its raw level, and the change acts as the rules of its
input say (R135, R137). Of axis inputs only a change to active acts, never on a DISABLED axis, and LIMP, LIMN, SLOW and HOME
never on one that is not busy. On a busy axis: a limit on the side it moves to ends its segment, and the other limit does
nothing (R78); SLOW stops a RUNNING axis at or above its threshold with SLOW_ZONE (R79) and a seek with SLOW_REACHED (R80);
HOME brings the home event about, once, also during a walk (R87, R88); ALARM ends the segment (R81). ALARM on an IDLE or HELD
axis holds it with DRIVER_ALARM (R81). A general input is reported when its flag is set (R139) and ends the WAIT_INPUT of the
one axis that waits for it COMPLETE (R94), the two in either order (notes/assumptions/6.md). ESTOP becoming inactive is
reported and changes no axis (R84). Where an end is normal the axis has nothing else queued and becomes IDLE. That before the
deadline the command changes nothing is the model's choice (notes/assumptions/1.md and 3.md). -/
def Obligations.AcceptedLevelsAreHandedOn : Prop :=
  ∀ s : State, s.resetHeld = none →
    (∀ i : InputId, (s.input i).pending ≠ some s.uptime → exec (.filterAcceptance i) s = .next s) ∧
    (∀ (a : AxisId) (l : AxisLine), (s.input (.axis a l)).pending = some s.uptime →
      ((s.input (.axis a l)).raw = false ∨ (s.axis a).state = .disabled ∨ (s.axis a).busy = false ∧ l ≠ .alarm) →
      exec (.filterAcceptance (.axis a l)) s = .next (s.setInput (.axis a l)
        { s.input (.axis a l) with accepted := (s.input (.axis a l)).raw, pending := none })) ∧
    (∀ a : AxisId, (s.input (.axis a .alarm)).pending = some s.uptime → (s.input (.axis a .alarm)).raw = true →
      ((s.axis a).state = .idle ∨ (s.axis a).state = .held) →
      exec (.filterAcceptance (.axis a .alarm)) s = .next
        ((s.setInput (.axis a .alarm) { s.input (.axis a .alarm) with accepted := true, pending := none }).setAxis a
          { s.axis a with state := .held, heldCause := .stopped .driverAlarm, progress := none })) ∧
    (∀ i : Fin 4, (s.input (.general i)).pending = some s.uptime →
      (∀ a : AxisId, (s.axis a).waitsFor i (s.input (.general i)).raw = false) →
      exec (.filterAcceptance (.general i)) s = .next
        (let t := s.setInput (.general i)
          { s.input (.general i) with accepted := (s.input (.general i)).raw, pending := none }
        if s.inputs.reportOnChange.getLsbD i.val then admitReport (.inputChanged i (s.input (.general i)).raw) t else t)) ∧
    ((s.input .estop).pending = some s.uptime → (s.input .estop).raw = false →
      exec (.filterAcceptance .estop) s = .next (admitReport (.estopChanged false)
        (s.setInput .estop { s.input .estop with accepted := false, pending := none }))) ∧
    (∀ (a : AxisId) (l : AxisLine) (g : Segment) (rest : List Segment) (p : Progress), s.AxesFit → s.JoinsSound →
      (s.input (.axis a l)).pending = some s.uptime → (s.input (.axis a l)).raw = true → (s.axis a).busy = true →
      (s.axis a).queue = g :: rest → (s.axis a).progress = some p →
      let t := s.setInput (.axis a l) { s.input (.axis a l) with accepted := true, pending := none }
      let o := exec (.filterAcceptance (.axis a l)) s
      match l with
      | .limp => if (s.axis a).state ≠ .waiting ∧ p.direction = some .positive then t.EndsHeld a g rest p .limitPos o
          else o = .next t
      | .limn => if (s.axis a).state ≠ .waiting ∧ p.direction = some .negative then t.EndsHeld a g rest p .limitNeg o
          else o = .next t
      | .alarm => t.EndsHeld a g rest p .driverAlarm o
      | .slow =>
        match (s.axis a).state, g.work with
        | .running, .run _ _ _ true =>
          match t.walkFrom a g p with
          | some (k, legs) => o = .next (t.walkBegun a p k legs .slowReached)
          | none => rest = [] → o = .next (t.idleAfter a g p .slowReached)
        | .running, _ =>
          if (s.axis a).config.slowThreshold ≤ p.rate then
            match t.walkFrom a g p with
            | some (k, legs) => o = .next (t.walkBegun a p k legs .slowZone)
            | none => t.EndsHeld a g rest p .slowZone o
          else o = .next t
        | _, _ => o = .next t
      | .home =>
        match g.work with
        | .home _ _ _ _ zeroAtHome abruptAtHome =>
          if p.homeDetected then o = .next t
          else
            let q := { p with homeDetected := true }
            let u := t.setAxis a { s.axis a with
              position := if zeroAtHome then 0 else (s.axis a).position, progress := some q }
            if (s.axis a).state = .running then
              match if abruptAtHome then none else u.walkFrom a g q with
              | some (k, legs) => o = .next (u.walkBegun a q k legs .homed)
              | none => rest = [] → o = .next (u.idleAfter a g q .homed)
            else ∀ c, p.recordedCause = some c → c.normal = false → c ≠ .estop →
              if abruptAtHome then u.EndsHeld a g rest q c o else o = .next u
        | _ => o = .next t) ∧
    ∀ (i : Fin 4) (a : AxisId) (g : Segment) (p : Progress) (timeout : Nat), s.AxesFit → s.JoinsSound →
      (s.input (.general i)).pending = some s.uptime → (s.axis a).state = .waiting → (s.axis a).queue = [g] →
      (s.axis a).progress = some p → g.work = .waitInput i (s.input (.general i)).raw timeout →
      (∀ b, b ≠ a → (s.axis b).waitsFor i (s.input (.general i)).raw = false) →
      let t := s.setInput (.general i)
        { s.input (.general i) with accepted := (s.input (.general i)).raw, pending := none }
      let o := exec (.filterAcceptance (.general i)) s
      let change := admitReport (.inputChanged i (s.input (.general i)).raw)
      if s.inputs.reportOnChange.getLsbD i.val then
        ∃ n, o = .next (State.idleAfter (change { t with freeCount := n }) a g p .complete) ∨
          o = .next (change (State.idleAfter { t with freeCount := n } a g p .complete))
      else o = .next (t.idleAfter a g p .complete)

/-- When ESTOP is accepted active, every axis that is not DISABLED becomes DISABLED or HELD, as its estop_disables says, with
held cause ESTOP; its progress is discarded, its position and the STEP pulses it has still to emit are kept, and of its queue
the active segment is gone, and the rest too where a flush was pending. A segment that was active ends with ESTOP, or, a JOIN
whose meeting another axis's end has broken, with JOIN_BROKEN. DISABLED axes, the outputs, the channels and the triggers are
not touched (R82, R83, R106). The order in which the axes take it is free (notes/assumptions/6.md), and the statement holds
for every order. -/
def Obligations.EstopStopsEveryAxis : Prop :=
  ∀ s : State, s.resetHeld = none → s.AxesFit → (s.input .estop).pending = some s.uptime → (s.input .estop).raw = true →
    ∃ t, exec (.filterAcceptance .estop) s = .next t ∧ t.estopActive = true ∧
      t.outputs = s.outputs ∧ t.pwm = s.pwm ∧ t.triggers = s.triggers ∧ t.profiles = s.profiles ∧ t.line = s.line ∧
      t.uptime = s.uptime ∧
      ∀ a : AxisId,
        ((s.axis a).state = .disabled → t.axis a = s.axis a) ∧
        ((s.axis a).state ≠ .disabled →
          (t.axis a).state = (if (s.axis a).config.estopDisables then .disabled else .held) ∧
          (t.axis a).heldCause = .stopped .estop ∧ (t.axis a).progress = none ∧
          (t.axis a).position = (s.axis a).position ∧ (t.axis a).pulsesWaiting = (s.axis a).pulsesWaiting ∧
          (t.axis a).stepActive = (s.axis a).stepActive) ∧
        ((s.axis a).busy = false → (t.axis a).queue = (s.axis a).queue ∧ (t.axis a).lastEnd = (s.axis a).lastEnd) ∧
        ((s.axis a).busy = true →
          (t.axis a).queue = (if (s.axis a).flushPending then [] else (s.axis a).queue.tail) ∧
          ∃ e, (t.axis a).lastEnd = some e ∧ (e.cause = .estop ∨ e.kind = .join ∧ e.cause = .joinBroken))

/-! ### Link loss -/

/-- When the supervision timer's deadline is the uptime the link becomes LOST and the timer stops; each output takes its
link-loss level and each enabled channel that is to go off is disabled; an axis that is not busy is not touched, a busy one
whose action is ABRUPT is HELD, and one whose action is RAMPED is HELD or STOPPING; where no axis has anything to
stop, LINK_LOST is the one report (R85, R129, R162). The order of the receivers is free (notes/assumptions/6.md). That at any other
uptime the command changes nothing is the model's choice (notes/assumptions/1.md and 3.md). -/
def Obligations.LinkLossReachesEveryBlock : Prop :=
  ∀ s : State, s.resetHeld = none →
    (s.line.timer ≠ some s.uptime → exec .linkLossEvent s = .next s) ∧
    (s.line.timer = some s.uptime → s.AxesFit →
      ∃ t, exec .linkLossEvent s = .next t ∧
        t.line = { s.line with link := .lost, timer := none } ∧
        t.inputs = s.inputs ∧ t.profiles = s.profiles ∧ t.triggers = s.triggers ∧ t.uptime = s.uptime ∧
        (∀ n : Fin 8, t.output n = match (s.output n).lossLevel with
          | .keep => s.output n
          | .active => { s.output n with level := true, deadline := none }
          | .inactive => { s.output n with level := false, deadline := none }) ∧
        (∀ c : Fin 2, t.channel c = if (s.channel c).offOnLoss ∧ (s.channel c).enabled then
            { s.channel c with enabled := false, pending := none, pinActive := false }
          else s.channel c) ∧
        (∀ a : AxisId,
          ((s.axis a).busy = false → t.axis a = s.axis a) ∧
          ((s.axis a).busy = true → (s.axis a).config.linkLossAction = .abrupt → (t.axis a).state = .held) ∧
          ((s.axis a).busy = true → (s.axis a).config.linkLossAction = .ramped →
            (t.axis a).state = .held ∨ (t.axis a).state = .stopping)) ∧
        ((∀ a : AxisId, (s.axis a).busy = false ∨ (s.axis a).config.linkLossAction = .continue) →
          t.axes = s.axes ∧ t.joins = s.joins ∧ t.reports = (admitReport (.linkLost s.line.timeout) s).reports))

/-! ### Steps -/

/-- A step moves the position counter of its axis by one in the segment's direction, modulo 2²⁴, and asks for one STEP pulse;
no other axis moves. Every ARMED slot on that axis at that position whose qualifier matches the direction fires once, its
count stopping at 65,535, and no other slot fires (R56, R63, R116 to R118). A REARM slot stays ARMED; a ONESHOT slot that
fires becomes SPENT, unless its own or a higher slot of the set arms it again; an ARM_SLOT of the set makes a DISARMED or SPENT
slot ARMED and does nothing to a FREE or ARMED one (R117, R121). Where one slot fires, with SLOW inactive and no HOME, its
report is admitted and then its action applied: OUT_SET, OUT_CLEAR and OUT_PULSE to the output, PWM_DUTY to the channel,
STOP_AXIS to the axis by its state, ARM_SLOT to the slot, and NOTE to nothing (R119 to R122, R132). That STEP_ISSUE of an axis
whose plan or walk has no further step changes nothing is the model's choice (notes/assumptions/1.md). -/
def Obligations.StepsMoveOneAxisAndFireItsTriggers : Prop :=
  ∀ (a : AxisId) (s : State), s.resetHeld = none → s.TriggersSound →
    ((∀ g p, (s.axis a).active = some (g, p) → nextStep (s.axis a).state p = none) →
      exec (.stepIssue a) s = .next s) ∧
    ∀ (g : Segment) (p q : Progress) (l : Leg) (d : Direction), (s.axis a).active = some (g, p) →
      nextStep (s.axis a).state p = some (l, q) → p.direction = some d →
      let here : Position := (s.axis a).position + (if d = .positive then 1 else -1)
      let fires : Fin 24 → Prop := fun i =>
        ∃ f, (s.trigger i).fields = some f ∧ (s.trigger i).state = .armed ∧ f.axis = a ∧ f.position = here ∧
          (f.qualifier = .either ∨ f.qualifier = (if d = .positive then .positive else .negative))
      let arms : Fin 24 → Fin 24 → Prop := fun j i =>
        fires j ∧ ∃ f, (s.trigger j).fields = some f ∧ f.action = .armSlot i
      (∃ t, exec (.stepIssue a) s = .next t ∧
        (t.axis a).position = here ∧ (t.axis a).pulsesWaiting = (s.axis a).pulsesWaiting + 1 ∧
        (∀ b, b ≠ a → (t.axis b).position = (s.axis b).position ∧ (t.axis b).pulsesWaiting = (s.axis b).pulsesWaiting) ∧
        (∀ i, fires i → (t.trigger i).fireCount = min 65535 ((s.trigger i).fireCount + 1)) ∧
        (∀ i, ¬ fires i → (t.trigger i).fireCount = (s.trigger i).fireCount) ∧
        (∀ i, (t.trigger i).fields = (s.trigger i).fields) ∧
        (∀ i f, fires i → (s.trigger i).fields = some f →
          (f.mode = .rearm → (t.trigger i).state = .armed) ∧
          (f.mode = .oneshot → (∃ j, i ≤ j ∧ arms j i) → (t.trigger i).state = .armed) ∧
          (f.mode = .oneshot → (∀ j, i ≤ j → ¬ arms j i) → (t.trigger i).state = .spent)) ∧
        (∀ i, ¬ fires i →
          ((s.trigger i).state = .disarmed ∨ (s.trigger i).state = .spent → (∃ j, arms j i) →
            (t.trigger i).state = .armed) ∧
          ((s.trigger i).state = .free ∨ (s.trigger i).state = .armed ∨ (∀ j, ¬ arms j i) →
            t.trigger i = s.trigger i)) ∧
        t.inputs = s.inputs ∧ t.profiles = s.profiles ∧ t.line = s.line ∧ t.uptime = s.uptime) ∧
      ∀ (i : Fin 24) (f : TriggerFields), fires i → (∀ j, fires j → j = i) → (s.trigger i).fields = some f →
        p.stepsTaken < 8388607 → s.accepted (.axis a .slow) = false → g.work.isHome = false →
        let stepped := s.setAxis a { s.axis a with
          position := here
          pulsesWaiting := (s.axis a).pulsesWaiting + 1
          progress := some { q with stepsTaken := p.stepsTaken + 1, rate := l.rate } }
        let count := min 65535 ((s.trigger i).fireCount + 1)
        let fired := stepped.setTrigger i { s.trigger i with
          fireCount := count, state := if f.mode = .oneshot then .spent else .armed }
        let u : State := if f.report then admitReport (.triggerFired i a here count) fired else fired
        let o := exec (.stepIssue a) s
        match f.action with
        | .outSet n => o = .next (u.setOutput n { u.output n with level := true, deadline := none })
        | .outClear n => o = .next (u.setOutput n { u.output n with level := false, deadline := none })
        | .outPulse n w => o = .next (u.setOutput n { u.output n with
            level := true, deadline := some (u.uptime + BitVec.ofNat 32 w) })
        | .pwmDuty c duty => o = .next (u.setChannel c
            (match (u.channel c).enabled, (u.channel c).pending with
              | true, some r => { u.channel c with pending := some { period := r.period, duty := duty } }
              | true, none => { u.channel c with pending := some { period := (u.channel c).active.period, duty := duty } }
              | false, _ => { u.channel c with
                  active := { period := (u.channel c).active.period, duty := min duty (u.channel c).active.period } }))
        | .armSlot m => o = .next (if (u.trigger m).state = .disarmed ∨ (u.trigger m).state = .spent then
            u.setTrigger m { u.trigger m with state := .armed } else u)
        | .note => o = .next u
        | .stopAxis k mode =>
          ((u.axis k).busy = false → o = .next u) ∧
          ∀ (gk : Segment) (rest : List Segment) (pk : Progress), (u.axis k).queue = gk :: rest →
            (u.axis k).progress = some pk →
            match (u.axis k).state, mode with
            | .waiting, _ | .running, .abrupt | .stopping, .abrupt => u.EndsHeld k gk rest pk .triggerStop o
            | .running, .ramped =>
              match u.walkFrom k gk pk with
              | some (w, legs) => o = .next (u.walkBegun k pk w legs .triggerStop)
              | none => u.EndsHeld k gk rest pk .triggerStop o
            | .stopping, .ramped => ∀ c, pk.recordedCause = some c →
                o = .next (u.setAxis k { u.axis k with
                  progress := some { pk with recordedCause := some (if c.normal then .triggerStop else c) } })
            | .disabled, _ | .idle, _ | .held, _ => o = .next u

/-- A step that fires no trigger, with SLOW accepted inactive, of a segment that is no HOME, changes its axis alone: position,
steps taken, place in the plan or walk, current rate and the STEP pulse asked for (R41, R42, R55, R56). -/
def Obligations.PlainStepsChangeTheirAxisAlone : Prop :=
  ∀ (a : AxisId) (g : Segment) (p q : Progress) (l : Leg) (d : Direction) (s : State), s.resetHeld = none →
    (s.axis a).active = some (g, p) → nextStep (s.axis a).state p = some (l, q) → p.direction = some d →
    p.stepsTaken < 8388607 → s.accepted (.axis a .slow) = false → g.work.isHome = false →
    (let here : Position := (s.axis a).position + (if d = .positive then 1 else -1)
    (∀ i f, (s.trigger i).fields = some f → (s.trigger i).state = .armed → f.axis = a → f.position ≠ here) →
    exec (.stepIssue a) s = .next (s.setAxis a { s.axis a with
      position := here
      pulsesWaiting := (s.axis a).pulsesWaiting + 1
      progress := some { q with stepsTaken := p.stepsTaken + 1, rate := l.rate } }))

/-- A STEP pulse begins when none is active and one is asked for; it ends when one is active, and DIR takes a level that
waited for that end (R63). A change of direction waits for the pulses under way or asked for; how it is held is the model's
(notes/assumptions/13.md). -/
def Obligations.StepPulsesBeginAndEnd : Prop :=
  ∀ (a : AxisId) (s : State), s.resetHeld = none →
    exec (.stepPulseStart a) s = .next
      (if (s.axis a).stepActive = false ∧ 0 < (s.axis a).pulsesWaiting then
        s.setAxis a { s.axis a with stepActive := true, pulsesWaiting := (s.axis a).pulsesWaiting - 1 }
      else s) ∧
    ((s.axis a).stepActive = false → exec (.stepPulseEnd a) s = .next s) ∧
    ((s.axis a).stepActive = true → (s.axis a).dirChanges = [] →
      exec (.stepPulseEnd a) s = .next (s.setAxis a { s.axis a with stepActive := false })) ∧
    ∀ (n : Nat) (d : Direction), (s.axis a).stepActive = true → (s.axis a).dirChanges = [(n, d)] →
      exec (.stepPulseEnd a) s = .next (s.setAxis a (if n ≤ 1 then
          { s.axis a with stepActive := false, shownDir := d, dirChanges := [] }
        else { s.axis a with stepActive := false, dirChanges := [(n - 1, d)] }))

/-- The tail interval of a RUNNING axis ends its segment COMPLETE, and the axis with an empty queue becomes IDLE (R58, R60).
The end of a stop walk ends it with the recorded cause: after a STOP with HOLD the axis is HELD with the rest of its queue,
with FLUSH it is IDLE and the rest is discarded, and after a home event the HOME ends HOMED and the axis goes on, here to
IDLE (R60, R61, R68, R88). That either command changes nothing while a step is still to come is the model's choice
(notes/assumptions/1.md). -/
def Obligations.SegmentsEndAfterTheirLastStep : Prop :=
  ∀ (a : AxisId) (g : Segment) (rest : List Segment) (p : Progress) (s : State), s.resetHeld = none →
    (s.axis a).queue = g :: rest → (s.axis a).progress = some p → (∀ r ∈ s.joins, r.here a = false) →
    let e : Cause → EndRecord := fun c =>
      { tag := g.tag, kind := g.work.kind, cause := c, stepsTaken := p.stepsTaken, endPosition := (s.axis a).position
        discarded := if p.flushPending then rest.length else 0 }
    ((s.axis a).state = .running → p.plan.advance = none → p.flushPending = false → rest = [] →
      exec (.tailIntervalExpiry a) s = .next
        ((if g.report then admitReport (.segmentDone a (e .complete)) s else s).setAxis a { s.axis a with
          state := .idle, heldCause := .none, queue := [], lastEnd := some (e .complete), progress := none })) ∧
    ((s.axis a).state = .running → p.plan.advance ≠ none → exec (.tailIntervalExpiry a) s = .next s) ∧
    ∀ w : Track, (s.axis a).state = .stopping → p.walk = some w →
      (w.advance ≠ none → exec (.stopWalkEnd a) s = .next s) ∧
      (w.advance = none → p.recordedCause = some .stoppedByOrder →
        exec (.stopWalkEnd a) s = .next ((admitReport (.segmentDone a (e .stoppedByOrder)) s).setAxis a { s.axis a with
          state := if p.flushPending then .idle else .held
          heldCause := if p.flushPending then .none else .stopped .stoppedByOrder
          queue := if p.flushPending then [] else rest
          lastEnd := some (e .stoppedByOrder)
          progress := none })) ∧
      (w.advance = none → p.recordedCause = some .homed → p.flushPending = false → rest = [] →
        exec (.stopWalkEnd a) s = .next
          ((if g.report then admitReport (.segmentDone a (e .homed)) s else s).setAxis a { s.axis a with
            state := .idle, heldCause := .none, queue := [], lastEnd := some (e .homed), progress := none }))

/-! ### Plans and joins -/

/-- The plan of a counted segment has exactly the segment's steps, reads the same from either end, has no empty leg, and no
rate above the target or below the starting rate; issuing its steps one by one comes to an end after exactly that many. A stop
walk from a rate never goes beyond the steps left, and its rates fall strictly from below that rate (R26 to R29, R32,
R34). -/
def Obligations.PlansHaveTheStepsOfTheirSegments : Prop :=
  ∀ (stages : List Stage) (rate n : Nat), stages.all Stage.inRange → ascending stages → rateInRange rate →
    countInRange n →
    (let used := usedStages stages rate
     let legs := countedPlan used rate n
     legSum legs = n ∧ legs.reverse.map (fun l => (l.rate, l.steps)) = legs.map (fun l => (l.rate, l.steps)) ∧
       (∀ l ∈ legs, l.sound ∧ l.steps.isSome ∧ l.rate ≤ rate ∧ startingRate used rate ≤ l.rate) ∧
       ∀ k, ((fun t : Option Track => t.bind fun t => t.advance.map Prod.snd)^[k] (some (Track.start legs)) = none) ↔
         n < k) ∧
    ∀ p : Progress, p.count = some n →
      legSum (walkLegs stages rate p) ≤ n - p.stepsTaken ∧
        ((walkLegs stages rate p).map Leg.rate).Pairwise (· > ·) ∧ ∀ l ∈ walkLegs stages rate p, l.rate < rate ∧ l.sound

/-- The last arrival at a join of two axes releases it: at one event the DWELL before the arriving axis's JOIN ends, both
JOINs end COMPLETE, the record is freed, and both axes, with nothing else queued, are IDLE; no other axis changes (R98, R100,
R101). -/
def Obligations.LastArrivalReleasesTheJoin : Prop :=
  ∀ (a b : AxisId) (g ga gb : Segment) (p pb : Progress) (time token : Nat) (members : AxisMask) (r : JoinRecord)
    (s : State), s.resetHeld = none → a ≠ b → members = axisBit a ||| axisBit b →
    (s.axis a).state = .waiting → (s.axis a).queue = [g, ga] → (s.axis a).progress = some p → g.work = .dwell time →
    p.deadline = some s.uptime → p.flushPending = false → ga.work = .join token members →
    (s.axis b).state = .waiting → (s.axis b).queue = [gb] → (s.axis b).progress = some pb →
    pb.flushPending = false → gb.work = .join token members →
    s.joins = [r] → r = { token := token, members := members, arrived := axisBit b } →
    s.estopActive = false → s.alarmActive a = false →
    ∃ t ea eb, exec (.dwellEnd a) s = .next t ∧ t.joins = [] ∧
      t.axis a = { s.axis a with
        state := .idle, heldCause := .none, queue := [], lastEnd := some ea, progress := none } ∧
      t.axis b = { s.axis b with
        state := .idle, heldCause := .none, queue := [], lastEnd := some eb, progress := none } ∧
      ea.tag = ga.tag ∧ ea.kind = .join ∧ ea.cause = .complete ∧ eb.tag = gb.tag ∧ eb.kind = .join ∧ eb.cause = .complete ∧
      (∀ c, c ≠ a → c ≠ b → t.axis c = s.axis c) ∧ t.line = s.line ∧ t.inputs = s.inputs ∧ t.outputs = s.outputs

/-! ### What every step keeps -/

/-- The pool holds at most 48 segments, each with fields in range; every profile has at most 16 stages in range with strictly
ascending rates; and a profile that a segment, a walk or an axis configuration names is DEFINED (R2, R5, R20, R22). Every
step keeps these together. -/
def Obligations.PoolAndProfilesStaySound : Prop :=
  ∀ s t : State, s.SegmentsInRange ∧ s.PoolFits ∧ s.ProfilesSound ∧ s.NamedProfilesDefined → step s = .next t →
    t.SegmentsInRange ∧ t.PoolFits ∧ t.ProfilesSound ∧ t.NamedProfilesDefined

/-- Report numbers stay consecutive, at most 32 records wait and the dropped count stays in its range; a trigger slot is FREE
exactly without fields; a channel's duty stays at or under its period, and a disabled one has no pending record and an
inactive pin (R109, R110, R130, R131, R145). Every step keeps these together. -/
def Obligations.ReportsTriggersAndChannelsStaySound : Prop :=
  ∀ s t : State, s.ReportsSound ∧ s.TriggersSound ∧ s.ChannelsSound → step s = .next t →
    t.ReportsSound ∧ t.TriggersSound ∧ t.ChannelsSound

/-- A pending acceptance is present exactly while the raw level of an input differs from the accepted one; the supervision
timer runs exactly while the link is UP with a timeout; an unaddressed part has no timeout, no cache entry and no reply; and a
part held in reset is at its reset values (R134, R135, R153, R157, R162, R164, R166). Every step keeps these together. -/
def Obligations.InputsAndLineStaySound : Prop :=
  ∀ s t : State, s.InputsSound ∧ s.LineSound ∧ s.QuietInReset → step s = .next t →
    t.InputsSound ∧ t.LineSound ∧ t.QuietInReset

/-- Every axis stays in a row of the state table: a progress record while and only while it is RUNNING, WAITING or STOPPING,
an empty queue when IDLE, a held cause when HELD; and the book of meetings stays true: at most four open records, no token
twice, and an axis WAITS on a JOIN exactly while it is arrived in the one record of that join (R2, R40, R41, R43, R97). Every
step keeps these together. -/
def Obligations.AxesAndMeetingsStaySound : Prop :=
  ∀ s t : State, s.SegmentsInRange ∧ s.AxesFit ∧ s.JoinsSound → step s = .next t →
    t.SegmentsInRange ∧ t.AxesFit ∧ t.JoinsSound

/-- A motion never leaves its plan: in a sound part, after every step, each RUNNING axis has taken exactly the steps its plan
has issued, of a plan of exactly its count; each STOPPING axis can come to rest within its count; and the current rate is
that of the latest step (R27, R34, R41, R42, R58). -/
def Obligations.MotionStaysOnItsPlan : Prop :=
  ∀ s t : State, s.Sound → step s = .next t → t.MotionOnPlan

/-- The guards hold: in a sound part, after every step, no axis is RUNNING, WAITING or STOPPING while ESTOP or its ALARM is
accepted active, and none moves towards a limit that is accepted active (R48, R52, R57, R78, R81, R82). -/
def Obligations.MotionStaysGuarded : Prop :=
  ∀ s t : State, s.Sound → step s = .next t → t.MotionGuarded
end

