-- ==== Sys2Proof/Laws/State.lean ====
section
/-! SUPPORT. One lemma per field and per update of the state, so that no later proof unfolds a record update. -/

namespace Sys2Proof.Machine

/-! ### setAxis -/

@[simp] theorem State.setAxis_joins (s : State) (a : AxisId) (x : Axis) : (s.setAxis a x).joins = s.joins := rfl

@[simp] theorem State.setAxis_profiles (s : State) (a : AxisId) (x : Axis) : (s.setAxis a x).profiles = s.profiles := rfl

@[simp] theorem State.setAxis_triggers (s : State) (a : AxisId) (x : Axis) : (s.setAxis a x).triggers = s.triggers := rfl

@[simp] theorem State.setAxis_outputs (s : State) (a : AxisId) (x : Axis) : (s.setAxis a x).outputs = s.outputs := rfl

@[simp] theorem State.setAxis_pwm (s : State) (a : AxisId) (x : Axis) : (s.setAxis a x).pwm = s.pwm := rfl

@[simp] theorem State.setAxis_inputs (s : State) (a : AxisId) (x : Axis) : (s.setAxis a x).inputs = s.inputs := rfl

@[simp] theorem State.setAxis_uptime (s : State) (a : AxisId) (x : Axis) : (s.setAxis a x).uptime = s.uptime := rfl

@[simp] theorem State.setAxis_reports (s : State) (a : AxisId) (x : Axis) : (s.setAxis a x).reports = s.reports := rfl

@[simp] theorem State.setAxis_line (s : State) (a : AxisId) (x : Axis) : (s.setAxis a x).line = s.line := rfl

@[simp] theorem State.setAxis_resetHeld (s : State) (a : AxisId) (x : Axis) : (s.setAxis a x).resetHeld = s.resetHeld := rfl

@[simp] theorem State.setAxis_freeCount (s : State) (a : AxisId) (x : Axis) : (s.setAxis a x).freeCount = s.freeCount := rfl

@[simp] theorem State.setAxis_pending (s : State) (a : AxisId) (x : Axis) : (s.setAxis a x).pending = s.pending := rfl

@[simp] theorem State.setAxis_profile (s : State) (a : AxisId) (x : Axis) (q : ProfileId) : (s.setAxis a x).profile q = s.profile q := rfl

@[simp] theorem State.setAxis_trigger (s : State) (a : AxisId) (x : Axis) (j : Fin 24) : (s.setAxis a x).trigger j = s.trigger j := rfl

@[simp] theorem State.setAxis_output (s : State) (a : AxisId) (x : Axis) (m : Fin 8) : (s.setAxis a x).output m = s.output m := rfl

@[simp] theorem State.setAxis_channel (s : State) (a : AxisId) (x : Axis) (d : Fin 2) : (s.setAxis a x).channel d = s.channel d := rfl

@[simp] theorem State.setAxis_input (s : State) (a : AxisId) (x : Axis) (j : InputId) : (s.setAxis a x).input j = s.input j := rfl

@[simp] theorem State.setAxis_accepted (s : State) (a : AxisId) (x : Axis) (j : InputId) : (s.setAxis a x).accepted j = s.accepted j := rfl

@[simp] theorem State.setAxis_filterTime (s : State) (a : AxisId) (x : Axis) (j : InputId) : (s.setAxis a x).filterTime j = s.filterTime j := rfl

/-! ### setProfile -/

@[simp] theorem State.setProfile_axes (s : State) (p : ProfileId) (l : List Stage) : (s.setProfile p l).axes = s.axes := rfl

@[simp] theorem State.setProfile_joins (s : State) (p : ProfileId) (l : List Stage) : (s.setProfile p l).joins = s.joins := rfl

@[simp] theorem State.setProfile_triggers (s : State) (p : ProfileId) (l : List Stage) : (s.setProfile p l).triggers = s.triggers := rfl

@[simp] theorem State.setProfile_outputs (s : State) (p : ProfileId) (l : List Stage) : (s.setProfile p l).outputs = s.outputs := rfl

@[simp] theorem State.setProfile_pwm (s : State) (p : ProfileId) (l : List Stage) : (s.setProfile p l).pwm = s.pwm := rfl

@[simp] theorem State.setProfile_inputs (s : State) (p : ProfileId) (l : List Stage) : (s.setProfile p l).inputs = s.inputs := rfl

@[simp] theorem State.setProfile_uptime (s : State) (p : ProfileId) (l : List Stage) : (s.setProfile p l).uptime = s.uptime := rfl

@[simp] theorem State.setProfile_reports (s : State) (p : ProfileId) (l : List Stage) : (s.setProfile p l).reports = s.reports := rfl

@[simp] theorem State.setProfile_line (s : State) (p : ProfileId) (l : List Stage) : (s.setProfile p l).line = s.line := rfl

@[simp] theorem State.setProfile_resetHeld (s : State) (p : ProfileId) (l : List Stage) : (s.setProfile p l).resetHeld = s.resetHeld := rfl

@[simp] theorem State.setProfile_freeCount (s : State) (p : ProfileId) (l : List Stage) : (s.setProfile p l).freeCount = s.freeCount := rfl

@[simp] theorem State.setProfile_pending (s : State) (p : ProfileId) (l : List Stage) : (s.setProfile p l).pending = s.pending := rfl

@[simp] theorem State.setProfile_axis (s : State) (p : ProfileId) (l : List Stage) (b : AxisId) : (s.setProfile p l).axis b = s.axis b := rfl

@[simp] theorem State.setProfile_trigger (s : State) (p : ProfileId) (l : List Stage) (j : Fin 24) : (s.setProfile p l).trigger j = s.trigger j := rfl

@[simp] theorem State.setProfile_output (s : State) (p : ProfileId) (l : List Stage) (m : Fin 8) : (s.setProfile p l).output m = s.output m := rfl

@[simp] theorem State.setProfile_channel (s : State) (p : ProfileId) (l : List Stage) (d : Fin 2) : (s.setProfile p l).channel d = s.channel d := rfl

@[simp] theorem State.setProfile_input (s : State) (p : ProfileId) (l : List Stage) (j : InputId) : (s.setProfile p l).input j = s.input j := rfl

@[simp] theorem State.setProfile_accepted (s : State) (p : ProfileId) (l : List Stage) (j : InputId) : (s.setProfile p l).accepted j = s.accepted j := rfl

@[simp] theorem State.setProfile_filterTime (s : State) (p : ProfileId) (l : List Stage) (j : InputId) : (s.setProfile p l).filterTime j = s.filterTime j := rfl

/-! ### setTrigger -/

@[simp] theorem State.setTrigger_axes (s : State) (i : Fin 24) (t : TriggerSlot) : (s.setTrigger i t).axes = s.axes := rfl

@[simp] theorem State.setTrigger_joins (s : State) (i : Fin 24) (t : TriggerSlot) : (s.setTrigger i t).joins = s.joins := rfl

@[simp] theorem State.setTrigger_profiles (s : State) (i : Fin 24) (t : TriggerSlot) : (s.setTrigger i t).profiles = s.profiles := rfl

@[simp] theorem State.setTrigger_outputs (s : State) (i : Fin 24) (t : TriggerSlot) : (s.setTrigger i t).outputs = s.outputs := rfl

@[simp] theorem State.setTrigger_pwm (s : State) (i : Fin 24) (t : TriggerSlot) : (s.setTrigger i t).pwm = s.pwm := rfl

@[simp] theorem State.setTrigger_inputs (s : State) (i : Fin 24) (t : TriggerSlot) : (s.setTrigger i t).inputs = s.inputs := rfl

@[simp] theorem State.setTrigger_uptime (s : State) (i : Fin 24) (t : TriggerSlot) : (s.setTrigger i t).uptime = s.uptime := rfl

@[simp] theorem State.setTrigger_reports (s : State) (i : Fin 24) (t : TriggerSlot) : (s.setTrigger i t).reports = s.reports := rfl

@[simp] theorem State.setTrigger_line (s : State) (i : Fin 24) (t : TriggerSlot) : (s.setTrigger i t).line = s.line := rfl

@[simp] theorem State.setTrigger_resetHeld (s : State) (i : Fin 24) (t : TriggerSlot) : (s.setTrigger i t).resetHeld = s.resetHeld := rfl

@[simp] theorem State.setTrigger_freeCount (s : State) (i : Fin 24) (t : TriggerSlot) : (s.setTrigger i t).freeCount = s.freeCount := rfl

@[simp] theorem State.setTrigger_pending (s : State) (i : Fin 24) (t : TriggerSlot) : (s.setTrigger i t).pending = s.pending := rfl

@[simp] theorem State.setTrigger_axis (s : State) (i : Fin 24) (t : TriggerSlot) (b : AxisId) : (s.setTrigger i t).axis b = s.axis b := rfl

@[simp] theorem State.setTrigger_profile (s : State) (i : Fin 24) (t : TriggerSlot) (q : ProfileId) : (s.setTrigger i t).profile q = s.profile q := rfl

@[simp] theorem State.setTrigger_output (s : State) (i : Fin 24) (t : TriggerSlot) (m : Fin 8) : (s.setTrigger i t).output m = s.output m := rfl

@[simp] theorem State.setTrigger_channel (s : State) (i : Fin 24) (t : TriggerSlot) (d : Fin 2) : (s.setTrigger i t).channel d = s.channel d := rfl

@[simp] theorem State.setTrigger_input (s : State) (i : Fin 24) (t : TriggerSlot) (j : InputId) : (s.setTrigger i t).input j = s.input j := rfl

@[simp] theorem State.setTrigger_accepted (s : State) (i : Fin 24) (t : TriggerSlot) (j : InputId) : (s.setTrigger i t).accepted j = s.accepted j := rfl

@[simp] theorem State.setTrigger_filterTime (s : State) (i : Fin 24) (t : TriggerSlot) (j : InputId) : (s.setTrigger i t).filterTime j = s.filterTime j := rfl

/-! ### setOutput -/

@[simp] theorem State.setOutput_axes (s : State) (n : Fin 8) (o : OutputRecord) : (s.setOutput n o).axes = s.axes := rfl

@[simp] theorem State.setOutput_joins (s : State) (n : Fin 8) (o : OutputRecord) : (s.setOutput n o).joins = s.joins := rfl

@[simp] theorem State.setOutput_profiles (s : State) (n : Fin 8) (o : OutputRecord) : (s.setOutput n o).profiles = s.profiles := rfl

@[simp] theorem State.setOutput_triggers (s : State) (n : Fin 8) (o : OutputRecord) : (s.setOutput n o).triggers = s.triggers := rfl

@[simp] theorem State.setOutput_pwm (s : State) (n : Fin 8) (o : OutputRecord) : (s.setOutput n o).pwm = s.pwm := rfl

@[simp] theorem State.setOutput_inputs (s : State) (n : Fin 8) (o : OutputRecord) : (s.setOutput n o).inputs = s.inputs := rfl

@[simp] theorem State.setOutput_uptime (s : State) (n : Fin 8) (o : OutputRecord) : (s.setOutput n o).uptime = s.uptime := rfl

@[simp] theorem State.setOutput_reports (s : State) (n : Fin 8) (o : OutputRecord) : (s.setOutput n o).reports = s.reports := rfl

@[simp] theorem State.setOutput_line (s : State) (n : Fin 8) (o : OutputRecord) : (s.setOutput n o).line = s.line := rfl

@[simp] theorem State.setOutput_resetHeld (s : State) (n : Fin 8) (o : OutputRecord) : (s.setOutput n o).resetHeld = s.resetHeld := rfl

@[simp] theorem State.setOutput_freeCount (s : State) (n : Fin 8) (o : OutputRecord) : (s.setOutput n o).freeCount = s.freeCount := rfl

@[simp] theorem State.setOutput_pending (s : State) (n : Fin 8) (o : OutputRecord) : (s.setOutput n o).pending = s.pending := rfl

@[simp] theorem State.setOutput_axis (s : State) (n : Fin 8) (o : OutputRecord) (b : AxisId) : (s.setOutput n o).axis b = s.axis b := rfl

@[simp] theorem State.setOutput_profile (s : State) (n : Fin 8) (o : OutputRecord) (q : ProfileId) : (s.setOutput n o).profile q = s.profile q := rfl

@[simp] theorem State.setOutput_trigger (s : State) (n : Fin 8) (o : OutputRecord) (j : Fin 24) : (s.setOutput n o).trigger j = s.trigger j := rfl

@[simp] theorem State.setOutput_channel (s : State) (n : Fin 8) (o : OutputRecord) (d : Fin 2) : (s.setOutput n o).channel d = s.channel d := rfl

@[simp] theorem State.setOutput_input (s : State) (n : Fin 8) (o : OutputRecord) (j : InputId) : (s.setOutput n o).input j = s.input j := rfl

@[simp] theorem State.setOutput_accepted (s : State) (n : Fin 8) (o : OutputRecord) (j : InputId) : (s.setOutput n o).accepted j = s.accepted j := rfl

@[simp] theorem State.setOutput_filterTime (s : State) (n : Fin 8) (o : OutputRecord) (j : InputId) : (s.setOutput n o).filterTime j = s.filterTime j := rfl

/-! ### setChannel -/

@[simp] theorem State.setChannel_axes (s : State) (c : Fin 2) (p : PwmChannel) : (s.setChannel c p).axes = s.axes := rfl

@[simp] theorem State.setChannel_joins (s : State) (c : Fin 2) (p : PwmChannel) : (s.setChannel c p).joins = s.joins := rfl

@[simp] theorem State.setChannel_profiles (s : State) (c : Fin 2) (p : PwmChannel) : (s.setChannel c p).profiles = s.profiles := rfl

@[simp] theorem State.setChannel_triggers (s : State) (c : Fin 2) (p : PwmChannel) : (s.setChannel c p).triggers = s.triggers := rfl

@[simp] theorem State.setChannel_outputs (s : State) (c : Fin 2) (p : PwmChannel) : (s.setChannel c p).outputs = s.outputs := rfl

@[simp] theorem State.setChannel_inputs (s : State) (c : Fin 2) (p : PwmChannel) : (s.setChannel c p).inputs = s.inputs := rfl

@[simp] theorem State.setChannel_uptime (s : State) (c : Fin 2) (p : PwmChannel) : (s.setChannel c p).uptime = s.uptime := rfl

@[simp] theorem State.setChannel_reports (s : State) (c : Fin 2) (p : PwmChannel) : (s.setChannel c p).reports = s.reports := rfl

@[simp] theorem State.setChannel_line (s : State) (c : Fin 2) (p : PwmChannel) : (s.setChannel c p).line = s.line := rfl

@[simp] theorem State.setChannel_resetHeld (s : State) (c : Fin 2) (p : PwmChannel) : (s.setChannel c p).resetHeld = s.resetHeld := rfl

@[simp] theorem State.setChannel_freeCount (s : State) (c : Fin 2) (p : PwmChannel) : (s.setChannel c p).freeCount = s.freeCount := rfl

@[simp] theorem State.setChannel_pending (s : State) (c : Fin 2) (p : PwmChannel) : (s.setChannel c p).pending = s.pending := rfl

@[simp] theorem State.setChannel_axis (s : State) (c : Fin 2) (p : PwmChannel) (b : AxisId) : (s.setChannel c p).axis b = s.axis b := rfl

@[simp] theorem State.setChannel_profile (s : State) (c : Fin 2) (p : PwmChannel) (q : ProfileId) : (s.setChannel c p).profile q = s.profile q := rfl

@[simp] theorem State.setChannel_trigger (s : State) (c : Fin 2) (p : PwmChannel) (j : Fin 24) : (s.setChannel c p).trigger j = s.trigger j := rfl

@[simp] theorem State.setChannel_output (s : State) (c : Fin 2) (p : PwmChannel) (m : Fin 8) : (s.setChannel c p).output m = s.output m := rfl

@[simp] theorem State.setChannel_input (s : State) (c : Fin 2) (p : PwmChannel) (j : InputId) : (s.setChannel c p).input j = s.input j := rfl

@[simp] theorem State.setChannel_accepted (s : State) (c : Fin 2) (p : PwmChannel) (j : InputId) : (s.setChannel c p).accepted j = s.accepted j := rfl

@[simp] theorem State.setChannel_filterTime (s : State) (c : Fin 2) (p : PwmChannel) (j : InputId) : (s.setChannel c p).filterTime j = s.filterTime j := rfl

/-! ### setInput -/

@[simp] theorem State.setInput_axes (s : State) (i : InputId) (r : InputRecord) : (s.setInput i r).axes = s.axes := by cases i <;> rfl

@[simp] theorem State.setInput_joins (s : State) (i : InputId) (r : InputRecord) : (s.setInput i r).joins = s.joins := by cases i <;> rfl

@[simp] theorem State.setInput_profiles (s : State) (i : InputId) (r : InputRecord) : (s.setInput i r).profiles = s.profiles := by cases i <;> rfl

@[simp] theorem State.setInput_triggers (s : State) (i : InputId) (r : InputRecord) : (s.setInput i r).triggers = s.triggers := by cases i <;> rfl

@[simp] theorem State.setInput_outputs (s : State) (i : InputId) (r : InputRecord) : (s.setInput i r).outputs = s.outputs := by cases i <;> rfl

@[simp] theorem State.setInput_pwm (s : State) (i : InputId) (r : InputRecord) : (s.setInput i r).pwm = s.pwm := by cases i <;> rfl

@[simp] theorem State.setInput_uptime (s : State) (i : InputId) (r : InputRecord) : (s.setInput i r).uptime = s.uptime := by cases i <;> rfl

@[simp] theorem State.setInput_reports (s : State) (i : InputId) (r : InputRecord) : (s.setInput i r).reports = s.reports := by cases i <;> rfl

@[simp] theorem State.setInput_line (s : State) (i : InputId) (r : InputRecord) : (s.setInput i r).line = s.line := by cases i <;> rfl

@[simp] theorem State.setInput_resetHeld (s : State) (i : InputId) (r : InputRecord) : (s.setInput i r).resetHeld = s.resetHeld := by cases i <;> rfl

@[simp] theorem State.setInput_freeCount (s : State) (i : InputId) (r : InputRecord) : (s.setInput i r).freeCount = s.freeCount := by cases i <;> rfl

@[simp] theorem State.setInput_pending (s : State) (i : InputId) (r : InputRecord) : (s.setInput i r).pending = s.pending := by cases i <;> rfl

@[simp] theorem State.setInput_axis (s : State) (i : InputId) (r : InputRecord) (b : AxisId) : (s.setInput i r).axis b = s.axis b := by cases i <;> rfl

@[simp] theorem State.setInput_profile (s : State) (i : InputId) (r : InputRecord) (q : ProfileId) : (s.setInput i r).profile q = s.profile q := by cases i <;> rfl

@[simp] theorem State.setInput_trigger (s : State) (i : InputId) (r : InputRecord) (j : Fin 24) : (s.setInput i r).trigger j = s.trigger j := by cases i <;> rfl

@[simp] theorem State.setInput_output (s : State) (i : InputId) (r : InputRecord) (m : Fin 8) : (s.setInput i r).output m = s.output m := by cases i <;> rfl

@[simp] theorem State.setInput_channel (s : State) (i : InputId) (r : InputRecord) (d : Fin 2) : (s.setInput i r).channel d = s.channel d := by cases i <;> rfl

/-! ### setReceive -/

@[simp] theorem State.setReceive_axes (s : State) (r : ReceiveSide) : (s.setReceive r).axes = s.axes := rfl

@[simp] theorem State.setReceive_joins (s : State) (r : ReceiveSide) : (s.setReceive r).joins = s.joins := rfl

@[simp] theorem State.setReceive_profiles (s : State) (r : ReceiveSide) : (s.setReceive r).profiles = s.profiles := rfl

@[simp] theorem State.setReceive_triggers (s : State) (r : ReceiveSide) : (s.setReceive r).triggers = s.triggers := rfl

@[simp] theorem State.setReceive_outputs (s : State) (r : ReceiveSide) : (s.setReceive r).outputs = s.outputs := rfl

@[simp] theorem State.setReceive_pwm (s : State) (r : ReceiveSide) : (s.setReceive r).pwm = s.pwm := rfl

@[simp] theorem State.setReceive_inputs (s : State) (r : ReceiveSide) : (s.setReceive r).inputs = s.inputs := rfl

@[simp] theorem State.setReceive_uptime (s : State) (r : ReceiveSide) : (s.setReceive r).uptime = s.uptime := rfl

@[simp] theorem State.setReceive_reports (s : State) (r : ReceiveSide) : (s.setReceive r).reports = s.reports := rfl

@[simp] theorem State.setReceive_resetHeld (s : State) (r : ReceiveSide) : (s.setReceive r).resetHeld = s.resetHeld := rfl

@[simp] theorem State.setReceive_freeCount (s : State) (r : ReceiveSide) : (s.setReceive r).freeCount = s.freeCount := rfl

@[simp] theorem State.setReceive_pending (s : State) (r : ReceiveSide) : (s.setReceive r).pending = s.pending := rfl

@[simp] theorem State.setReceive_axis (s : State) (r : ReceiveSide) (b : AxisId) : (s.setReceive r).axis b = s.axis b := rfl

@[simp] theorem State.setReceive_profile (s : State) (r : ReceiveSide) (q : ProfileId) : (s.setReceive r).profile q = s.profile q := rfl

@[simp] theorem State.setReceive_trigger (s : State) (r : ReceiveSide) (j : Fin 24) : (s.setReceive r).trigger j = s.trigger j := rfl

@[simp] theorem State.setReceive_output (s : State) (r : ReceiveSide) (m : Fin 8) : (s.setReceive r).output m = s.output m := rfl

@[simp] theorem State.setReceive_channel (s : State) (r : ReceiveSide) (d : Fin 2) : (s.setReceive r).channel d = s.channel d := rfl

@[simp] theorem State.setReceive_input (s : State) (r : ReceiveSide) (j : InputId) : (s.setReceive r).input j = s.input j := rfl

@[simp] theorem State.setReceive_accepted (s : State) (r : ReceiveSide) (j : InputId) : (s.setReceive r).accepted j = s.accepted j := rfl

@[simp] theorem State.setReceive_filterTime (s : State) (r : ReceiveSide) (j : InputId) : (s.setReceive r).filterTime j = s.filterTime j := rfl

/-! ### setTransmit -/

@[simp] theorem State.setTransmit_axes (s : State) (t : TransmitSide) : (s.setTransmit t).axes = s.axes := rfl

@[simp] theorem State.setTransmit_joins (s : State) (t : TransmitSide) : (s.setTransmit t).joins = s.joins := rfl

@[simp] theorem State.setTransmit_profiles (s : State) (t : TransmitSide) : (s.setTransmit t).profiles = s.profiles := rfl

@[simp] theorem State.setTransmit_triggers (s : State) (t : TransmitSide) : (s.setTransmit t).triggers = s.triggers := rfl

@[simp] theorem State.setTransmit_outputs (s : State) (t : TransmitSide) : (s.setTransmit t).outputs = s.outputs := rfl

@[simp] theorem State.setTransmit_pwm (s : State) (t : TransmitSide) : (s.setTransmit t).pwm = s.pwm := rfl

@[simp] theorem State.setTransmit_inputs (s : State) (t : TransmitSide) : (s.setTransmit t).inputs = s.inputs := rfl

@[simp] theorem State.setTransmit_uptime (s : State) (t : TransmitSide) : (s.setTransmit t).uptime = s.uptime := rfl

@[simp] theorem State.setTransmit_reports (s : State) (t : TransmitSide) : (s.setTransmit t).reports = s.reports := rfl

@[simp] theorem State.setTransmit_resetHeld (s : State) (t : TransmitSide) : (s.setTransmit t).resetHeld = s.resetHeld := rfl

@[simp] theorem State.setTransmit_freeCount (s : State) (t : TransmitSide) : (s.setTransmit t).freeCount = s.freeCount := rfl

@[simp] theorem State.setTransmit_pending (s : State) (t : TransmitSide) : (s.setTransmit t).pending = s.pending := rfl

@[simp] theorem State.setTransmit_axis (s : State) (t : TransmitSide) (b : AxisId) : (s.setTransmit t).axis b = s.axis b := rfl

@[simp] theorem State.setTransmit_profile (s : State) (t : TransmitSide) (q : ProfileId) : (s.setTransmit t).profile q = s.profile q := rfl

@[simp] theorem State.setTransmit_trigger (s : State) (t : TransmitSide) (j : Fin 24) : (s.setTransmit t).trigger j = s.trigger j := rfl

@[simp] theorem State.setTransmit_output (s : State) (t : TransmitSide) (m : Fin 8) : (s.setTransmit t).output m = s.output m := rfl

@[simp] theorem State.setTransmit_channel (s : State) (t : TransmitSide) (d : Fin 2) : (s.setTransmit t).channel d = s.channel d := rfl

@[simp] theorem State.setTransmit_input (s : State) (t : TransmitSide) (j : InputId) : (s.setTransmit t).input j = s.input j := rfl

@[simp] theorem State.setTransmit_accepted (s : State) (t : TransmitSide) (j : InputId) : (s.setTransmit t).accepted j = s.accepted j := rfl

@[simp] theorem State.setTransmit_filterTime (s : State) (t : TransmitSide) (j : InputId) : (s.setTransmit t).filterTime j = s.filterTime j := rfl

/-! ### setStats -/

@[simp] theorem State.setStats_axes (s : State) (c : LinkStats) : (s.setStats c).axes = s.axes := rfl

@[simp] theorem State.setStats_joins (s : State) (c : LinkStats) : (s.setStats c).joins = s.joins := rfl

@[simp] theorem State.setStats_profiles (s : State) (c : LinkStats) : (s.setStats c).profiles = s.profiles := rfl

@[simp] theorem State.setStats_triggers (s : State) (c : LinkStats) : (s.setStats c).triggers = s.triggers := rfl

@[simp] theorem State.setStats_outputs (s : State) (c : LinkStats) : (s.setStats c).outputs = s.outputs := rfl

@[simp] theorem State.setStats_pwm (s : State) (c : LinkStats) : (s.setStats c).pwm = s.pwm := rfl

@[simp] theorem State.setStats_inputs (s : State) (c : LinkStats) : (s.setStats c).inputs = s.inputs := rfl

@[simp] theorem State.setStats_uptime (s : State) (c : LinkStats) : (s.setStats c).uptime = s.uptime := rfl

@[simp] theorem State.setStats_reports (s : State) (c : LinkStats) : (s.setStats c).reports = s.reports := rfl

@[simp] theorem State.setStats_resetHeld (s : State) (c : LinkStats) : (s.setStats c).resetHeld = s.resetHeld := rfl

@[simp] theorem State.setStats_freeCount (s : State) (c : LinkStats) : (s.setStats c).freeCount = s.freeCount := rfl

@[simp] theorem State.setStats_pending (s : State) (c : LinkStats) : (s.setStats c).pending = s.pending := rfl

@[simp] theorem State.setStats_axis (s : State) (c : LinkStats) (b : AxisId) : (s.setStats c).axis b = s.axis b := rfl

@[simp] theorem State.setStats_profile (s : State) (c : LinkStats) (q : ProfileId) : (s.setStats c).profile q = s.profile q := rfl

@[simp] theorem State.setStats_trigger (s : State) (c : LinkStats) (j : Fin 24) : (s.setStats c).trigger j = s.trigger j := rfl

@[simp] theorem State.setStats_output (s : State) (c : LinkStats) (m : Fin 8) : (s.setStats c).output m = s.output m := rfl

@[simp] theorem State.setStats_channel (s : State) (c : LinkStats) (d : Fin 2) : (s.setStats c).channel d = s.channel d := rfl

@[simp] theorem State.setStats_input (s : State) (c : LinkStats) (j : InputId) : (s.setStats c).input j = s.input j := rfl

@[simp] theorem State.setStats_accepted (s : State) (c : LinkStats) (j : InputId) : (s.setStats c).accepted j = s.accepted j := rfl

@[simp] theorem State.setStats_filterTime (s : State) (c : LinkStats) (j : InputId) : (s.setStats c).filterTime j = s.filterTime j := rfl

@[simp] theorem State.setProfile_queued (s : State) (p : ProfileId) (l : List Stage) : (s.setProfile p l).queued = s.queued := rfl

@[simp] theorem State.setTrigger_queued (s : State) (i : Fin 24) (t : TriggerSlot) : (s.setTrigger i t).queued = s.queued := rfl

@[simp] theorem State.setOutput_queued (s : State) (n : Fin 8) (o : OutputRecord) : (s.setOutput n o).queued = s.queued := rfl

@[simp] theorem State.setChannel_queued (s : State) (c : Fin 2) (p : PwmChannel) : (s.setChannel c p).queued = s.queued := rfl

@[simp] theorem State.setInput_queued (s : State) (i : InputId) (r : InputRecord) : (s.setInput i r).queued = s.queued := by cases i <;> rfl

@[simp] theorem State.setReceive_queued (s : State) (r : ReceiveSide) : (s.setReceive r).queued = s.queued := rfl

@[simp] theorem State.setTransmit_queued (s : State) (t : TransmitSide) : (s.setTransmit t).queued = s.queued := rfl

@[simp] theorem State.setStats_queued (s : State) (c : LinkStats) : (s.setStats c).queued = s.queued := rfl

/-! ### admitReport -/

@[simp] theorem admitReport_axes (b : ReportBody) (s : State) : (admitReport b s).axes = s.axes := rfl

@[simp] theorem admitReport_joins (b : ReportBody) (s : State) : (admitReport b s).joins = s.joins := rfl

@[simp] theorem admitReport_profiles (b : ReportBody) (s : State) : (admitReport b s).profiles = s.profiles := rfl

@[simp] theorem admitReport_triggers (b : ReportBody) (s : State) : (admitReport b s).triggers = s.triggers := rfl

@[simp] theorem admitReport_outputs (b : ReportBody) (s : State) : (admitReport b s).outputs = s.outputs := rfl

@[simp] theorem admitReport_pwm (b : ReportBody) (s : State) : (admitReport b s).pwm = s.pwm := rfl

@[simp] theorem admitReport_inputs (b : ReportBody) (s : State) : (admitReport b s).inputs = s.inputs := rfl

@[simp] theorem admitReport_uptime (b : ReportBody) (s : State) : (admitReport b s).uptime = s.uptime := rfl

@[simp] theorem admitReport_line (b : ReportBody) (s : State) : (admitReport b s).line = s.line := rfl

@[simp] theorem admitReport_resetHeld (b : ReportBody) (s : State) : (admitReport b s).resetHeld = s.resetHeld := rfl

@[simp] theorem admitReport_freeCount (b : ReportBody) (s : State) : (admitReport b s).freeCount = s.freeCount := rfl

@[simp] theorem admitReport_pending (b : ReportBody) (s : State) : (admitReport b s).pending = s.pending := rfl

@[simp] theorem admitReport_axis (b : ReportBody) (s : State) (c : AxisId) : (admitReport b s).axis c = s.axis c := rfl

@[simp] theorem admitReport_profile (b : ReportBody) (s : State) (q : ProfileId) : (admitReport b s).profile q = s.profile q := rfl

@[simp] theorem admitReport_trigger (b : ReportBody) (s : State) (j : Fin 24) : (admitReport b s).trigger j = s.trigger j := rfl

@[simp] theorem admitReport_output (b : ReportBody) (s : State) (m : Fin 8) : (admitReport b s).output m = s.output m := rfl

@[simp] theorem admitReport_channel (b : ReportBody) (s : State) (d : Fin 2) : (admitReport b s).channel d = s.channel d := rfl

@[simp] theorem admitReport_input (b : ReportBody) (s : State) (j : InputId) : (admitReport b s).input j = s.input j := rfl

@[simp] theorem admitReport_accepted (b : ReportBody) (s : State) (j : InputId) : (admitReport b s).accepted j = s.accepted j := rfl

@[simp] theorem admitReport_filterTime (b : ReportBody) (s : State) (j : InputId) : (admitReport b s).filterTime j = s.filterTime j := rfl

@[simp] theorem admitReport_queued (b : ReportBody) (s : State) : (admitReport b s).queued = s.queued := rfl

theorem admitReport_reports (b : ReportBody) (s : State) : (admitReport b s).reports = s.reports.enter s.uptime b := rfl

/-! ### Reading back what was written -/

/-- Reading an axis after a write. -/
theorem State.axis_setAxis (s : State) (a b : AxisId) (x : Axis) :
    (s.setAxis a x).axis b = if b = a then x else s.axis b := by
  simp only [State.setAxis, State.axis, Fin.getElem_fin, Vector.getElem_set, Fin.ext_iff]
  split <;> split <;> first | rfl | omega

@[simp] theorem State.axis_setAxis_self (s : State) (a : AxisId) (x : Axis) : (s.setAxis a x).axis a = x := by
  simp [State.axis_setAxis]

theorem State.axis_setAxis_ne (s : State) (a b : AxisId) (x : Axis) (h : b ≠ a) :
    (s.setAxis a x).axis b = s.axis b := by
  simp [State.axis_setAxis, h]

/-- Reading a profile after a write. -/
theorem State.profile_setProfile (s : State) (p q : ProfileId) (l : List Stage) :
    (s.setProfile p l).profile q = if q = p then l else s.profile q := by
  simp only [State.setProfile, State.profile, Fin.getElem_fin, Vector.getElem_set, Fin.ext_iff]
  split <;> split <;> first | rfl | omega

/-- Reading a trigger slot after a write. -/
theorem State.trigger_setTrigger (s : State) (i j : Fin 24) (t : TriggerSlot) :
    (s.setTrigger i t).trigger j = if j = i then t else s.trigger j := by
  simp only [State.setTrigger, State.trigger, Fin.getElem_fin, Vector.getElem_set, Fin.ext_iff]
  split <;> split <;> first | rfl | omega

@[simp] theorem State.trigger_setTrigger_self (s : State) (i : Fin 24) (t : TriggerSlot) :
    (s.setTrigger i t).trigger i = t := by
  simp [State.trigger_setTrigger]

/-- Reading an output after a write. -/
theorem State.output_setOutput (s : State) (n m : Fin 8) (o : OutputRecord) :
    (s.setOutput n o).output m = if m = n then o else s.output m := by
  simp only [State.setOutput, State.output, Fin.getElem_fin, Vector.getElem_set, Fin.ext_iff]
  split <;> split <;> first | rfl | omega

/-- Reading a PWM channel after a write. -/
theorem State.channel_setChannel (s : State) (c d : Fin 2) (p : PwmChannel) :
    (s.setChannel c p).channel d = if d = c then p else s.channel d := by
  simp only [State.setChannel, State.channel, Fin.getElem_fin, Vector.getElem_set, Fin.ext_iff]
  split <;> split <;> first | rfl | omega

/-- Reading one line of an axis's inputs after a write. -/
theorem AxisInputs.line_setLine (x : AxisInputs) (l m : AxisLine) (r : InputRecord) :
    (x.setLine l r).line m = if m = l then r else x.line m := by
  cases l <;> cases m <;> simp [AxisInputs.setLine, AxisInputs.line]

/-- Reading an input after a write. -/
theorem State.input_setInput (s : State) (i j : InputId) (r : InputRecord) :
    (s.setInput i r).input j = if j = i then r else s.input j := by
  cases i <;> cases j <;>
    simp [State.setInput, State.input, Vector.getElem_set, Fin.ext_iff, eq_comm]
  next a l b m =>
    by_cases h : a = b
    · subst h; simp [AxisInputs.line_setLine, eq_comm]
    · have : ¬ (a : Nat) = b := fun h' => h (Fin.ext h')
      simp [this]

@[simp] theorem State.input_setInput_self (s : State) (i : InputId) (r : InputRecord) : (s.setInput i r).input i = r := by
  simp [State.input_setInput]

/-- Writing an input changes no filter. -/
@[simp] theorem State.filterTime_setInput (s : State) (i j : InputId) (r : InputRecord) :
    (s.setInput i r).filterTime j = s.filterTime j := by
  cases i <;> cases j <;> rfl

end Sys2Proof.Machine
end

