-- ==== Sys2Proof/Laws/Frames.lean ====
section
/-! SUPPORT. What the shared operations of the engines can change, said once per operation. `StopFrame` is for ends that
hold an axis and the breaks that follow; `EngineFrame` is for everything that may go on to steps and triggers. -/

namespace Sys2Proof.Machine

/-! ### The two frames -/

/-- What an end that holds its axis leaves alone: every other block's state, and of each axis its configuration, its
position and its pins; a queue only loses segments from its head. -/
structure StopFrame (s t : State) : Prop where
  profiles : t.profiles = s.profiles
  triggers : t.triggers = s.triggers
  outputs : t.outputs = s.outputs
  pwm : t.pwm = s.pwm
  inputs : t.inputs = s.inputs
  uptime : t.uptime = s.uptime
  line : t.line = s.line
  resetHeld : t.resetHeld = s.resetHeld
  pending : t.pending = s.pending
  config (a : AxisId) : (t.axis a).config = (s.axis a).config
  position (a : AxisId) : (t.axis a).position = (s.axis a).position
  logicalDir (a : AxisId) : (t.axis a).logicalDir = (s.axis a).logicalDir
  shownDir (a : AxisId) : (t.axis a).shownDir = (s.axis a).shownDir
  dirChanges (a : AxisId) : (t.axis a).dirChanges = (s.axis a).dirChanges
  stepActive (a : AxisId) : (t.axis a).stepActive = (s.axis a).stepActive
  pulsesWaiting (a : AxisId) : (t.axis a).pulsesWaiting = (s.axis a).pulsesWaiting
  queue (a : AxisId) : (t.axis a).queue <:+ (s.axis a).queue

/-- What every operation of the engines leaves alone: the profiles, the inputs, the uptime, the line, the reset, the queue
of commands, the configurations and the triggers' fields; a queue only loses segments from its head. -/
structure EngineFrame (s t : State) : Prop where
  profiles : t.profiles = s.profiles
  inputs : t.inputs = s.inputs
  uptime : t.uptime = s.uptime
  line : t.line = s.line
  resetHeld : t.resetHeld = s.resetHeld
  pending : t.pending = s.pending
  config (a : AxisId) : (t.axis a).config = (s.axis a).config
  queue (a : AxisId) : (t.axis a).queue <:+ (s.axis a).queue
  fields (i : Fin 24) : (t.trigger i).fields = (s.trigger i).fields

theorem StopFrame.refl (s : State) : StopFrame s s :=
  ⟨rfl, rfl, rfl, rfl, rfl, rfl, rfl, rfl, rfl, fun _ => rfl, fun _ => rfl, fun _ => rfl, fun _ => rfl, fun _ => rfl,
    fun _ => rfl, fun _ => rfl, fun _ => List.suffix_refl _⟩

theorem StopFrame.trans {s t u : State} (h : StopFrame s t) (k : StopFrame t u) : StopFrame s u where
  profiles := k.profiles.trans h.profiles
  triggers := k.triggers.trans h.triggers
  outputs := k.outputs.trans h.outputs
  pwm := k.pwm.trans h.pwm
  inputs := k.inputs.trans h.inputs
  uptime := k.uptime.trans h.uptime
  line := k.line.trans h.line
  resetHeld := k.resetHeld.trans h.resetHeld
  pending := k.pending.trans h.pending
  config a := (k.config a).trans (h.config a)
  position a := (k.position a).trans (h.position a)
  logicalDir a := (k.logicalDir a).trans (h.logicalDir a)
  shownDir a := (k.shownDir a).trans (h.shownDir a)
  dirChanges a := (k.dirChanges a).trans (h.dirChanges a)
  stepActive a := (k.stepActive a).trans (h.stepActive a)
  pulsesWaiting a := (k.pulsesWaiting a).trans (h.pulsesWaiting a)
  queue a := (k.queue a).trans (h.queue a)

theorem EngineFrame.refl (s : State) : EngineFrame s s :=
  ⟨rfl, rfl, rfl, rfl, rfl, rfl, fun _ => rfl, fun _ => List.suffix_refl _, fun _ => rfl⟩

theorem EngineFrame.trans {s t u : State} (h : EngineFrame s t) (k : EngineFrame t u) : EngineFrame s u where
  profiles := k.profiles.trans h.profiles
  inputs := k.inputs.trans h.inputs
  uptime := k.uptime.trans h.uptime
  line := k.line.trans h.line
  resetHeld := k.resetHeld.trans h.resetHeld
  pending := k.pending.trans h.pending
  config a := (k.config a).trans (h.config a)
  queue a := (k.queue a).trans (h.queue a)
  fields i := (k.fields i).trans (h.fields i)

/-- An end that holds its axis is an engine operation. -/
theorem StopFrame.engine {s t : State} (h : StopFrame s t) : EngineFrame s t where
  profiles := h.profiles
  inputs := h.inputs
  uptime := h.uptime
  line := h.line
  resetHeld := h.resetHeld
  pending := h.pending
  config := h.config
  queue := h.queue
  fields i := by rw [State.trigger, State.trigger, h.triggers]

/-- A change of the join book, the report queue and the count of free choices alone. -/
theorem stopFrame_book (s : State) (j : List JoinRecord) (r : ReportQueue) (n : Nat) :
    StopFrame s { s with joins := j, reports := r, freeCount := n } :=
  ⟨rfl, rfl, rfl, rfl, rfl, rfl, rfl, rfl, rfl, fun _ => rfl, fun _ => rfl, fun _ => rfl, fun _ => rfl, fun _ => rfl,
    fun _ => rfl, fun _ => rfl, fun _ => List.suffix_refl _⟩

/-- A change of the outputs and channels alone. -/
theorem engineFrame_outputs (s : State) (o : Vector OutputRecord 8) (p : Vector PwmChannel 2) :
    EngineFrame s { s with outputs := o, pwm := p } :=
  ⟨rfl, rfl, rfl, rfl, rfl, rfl, fun _ => rfl, fun _ => List.suffix_refl _, fun _ => rfl⟩

/-- A fold of operations that each keep a frame keeps it. -/
theorem foldl_stopFrame {α : Type} (f : State → α → State) (hf : ∀ s x, StopFrame s (f s x)) (l : List α) (s : State) :
    StopFrame s (l.foldl f s) := by
  induction l generalizing s with
  | nil => exact StopFrame.refl s
  | cons x l ih => exact (hf s x).trans (ih _)

/-- A fold of operations that each keep a frame keeps it. -/
theorem foldl_engineFrame {α : Type} (f : State → α → State) (hf : ∀ s x, EngineFrame s (f s x)) (l : List α)
    (s : State) : EngineFrame s (l.foldl f s) := by
  induction l generalizing s with
  | nil => exact EngineFrame.refl s
  | cons x l ih => exact (hf s x).trans (ih _)

/-! ### Writing one axis -/

/-- A write of one axis that keeps its configuration, position and pins, and only takes segments from the head. -/
theorem stopFrame_setAxis (s : State) (a : AxisId) (x : Axis) (hc : x.config = (s.axis a).config)
    (hp : x.position = (s.axis a).position) (hl : x.logicalDir = (s.axis a).logicalDir)
    (hs : x.shownDir = (s.axis a).shownDir) (hd : x.dirChanges = (s.axis a).dirChanges)
    (ha : x.stepActive = (s.axis a).stepActive) (hw : x.pulsesWaiting = (s.axis a).pulsesWaiting)
    (hq : x.queue <:+ (s.axis a).queue) : StopFrame s (s.setAxis a x) := by
  constructor
  case queue => intro b; rw [State.axis_setAxis]; split <;> simp_all
  all_goals first
    | rfl
    | (intro b; rw [State.axis_setAxis]; split <;> simp_all)

/-- A write of one axis that keeps its configuration and only takes segments from the head. -/
theorem engineFrame_setAxis (s : State) (a : AxisId) (x : Axis) (hc : x.config = (s.axis a).config)
    (hq : x.queue <:+ (s.axis a).queue) : EngineFrame s (s.setAxis a x) := by
  constructor
  case queue => intro b; rw [State.axis_setAxis]; split <;> simp_all
  all_goals first
    | rfl
    | (intro b; rfl)
    | (intro b; rw [State.axis_setAxis]; split <;> simp_all)

/-! ### Free orders -/

/-- `insertAt` puts one element among the others. -/
theorem insertAt_perm {α : Type} (n : Nat) (x : α) (l : List α) : (insertAt n x l).Perm (x :: l) := by
  induction l generalizing n with
  | nil => cases n <;> exact List.Perm.refl _
  | cons y l ih =>
    cases n with
    | zero => exact List.Perm.refl _
    | succ n => exact ((ih n).cons y).trans (List.Perm.swap x y l)

/-- `permute` only reorders. -/
theorem permute_perm {α : Type} (k : Nat) (l : List α) : (permute k l).Perm l := by
  fun_induction permute k l with
  | case1 => exact List.Perm.refl _
  | case2 => exact List.Perm.refl _
  | case3 k x y l ih => exact (insertAt_perm _ x _).trans (ih.cons x)

/-- A drawn order is an order of the list, and only the count of free choices changes. -/
theorem drawOrder_spec {α : Type} (l : List α) (s : State) :
    (drawOrder l s).1.Perm l ∧ ∃ n, (drawOrder l s).2 = { s with freeCount := n } := by
  match l with
  | [] => exact ⟨List.Perm.refl _, s.freeCount, rfl⟩
  | [x] => exact ⟨List.Perm.refl _, s.freeCount, rfl⟩
  | x :: y :: r => exact ⟨permute_perm _ _, s.freeCount + 1, rfl⟩

theorem stopFrame_drawOrder {α : Type} (l : List α) (s : State) : StopFrame s (drawOrder l s).2 := by
  obtain ⟨n, h⟩ := (drawOrder_spec l s).2
  rw [h]
  exact stopFrame_book s s.joins s.reports n

/-! ### Ends that hold an axis -/

theorem stopFrame_admitReport (b : ReportBody) (s : State) : StopFrame s (admitReport b s) :=
  stopFrame_book s s.joins _ s.freeCount

theorem hold_frame (a : AxisId) (c : HeldCause) (s : State) : StopFrame s (hold a c s) :=
  stopFrame_setAxis s a _ rfl rfl rfl rfl rfl rfl rfl (List.suffix_refl _)

theorem becomeIdle_frame (a : AxisId) (s : State) : StopFrame s (becomeIdle a s) :=
  stopFrame_setAxis s a _ rfl rfl rfl rfl rfl rfl rfl (List.suffix_refl _)

theorem flushQueue_frame (a : AxisId) (s : State) : StopFrame s (flushQueue a s) :=
  stopFrame_setAxis s a _ rfl rfl rfl rfl rfl rfl rfl (List.nil_suffix)

theorem leaveByEstop_frame (a : AxisId) (s : State) : StopFrame s (leaveByEstop a s) :=
  stopFrame_setAxis s a _ rfl rfl rfl rfl rfl rfl rfl (List.suffix_refl _)

theorem settle_frame (a : AxisId) (c : Cause) (flushed : Bool) (s : State) : StopFrame s (settle a c flushed s) := by
  unfold settle
  split
  · exact leaveByEstop_frame a s
  · split
    · exact becomeIdle_frame a s
    · exact hold_frame a _ s

/-- What `closeSegment` does, said once (R59 steps 1 to 5 and 7): on an empty queue nothing; otherwise the head leaves, with
the rest when a flush is pending, its end record is written, the progress record goes, and SEGMENT_DONE is admitted when the
flag or the cause calls for it. -/
theorem closeSegment_spec (a : AxisId) (c : Cause) (s : State) :
    ((s.axis a).queue = [] ∧ closeSegment a c s = s) ∨
      ∃ g rest, (s.axis a).queue = g :: rest ∧
        closeSegment a c s =
          let e := endRecordOf (s.axis a) g rest c
          let t := s.setAxis a { s.axis a with
            queue := if (s.axis a).flushPending then [] else rest, lastEnd := some e, progress := none }
          if g.report || !c.normal then admitReport (.segmentDone a e) t else t := by
  unfold closeSegment
  split
  · next h => exact .inl ⟨h, rfl⟩
  · next g rest h => exact .inr ⟨g, rest, h, rfl⟩

theorem closeSegment_frame (a : AxisId) (c : Cause) (s : State) : StopFrame s (closeSegment a c s) := by
  obtain ⟨-, h⟩ | ⟨g, rest, hq, h⟩ := closeSegment_spec a c s
  · rw [h]; exact StopFrame.refl s
  · rw [h]
    have hs : (if (s.axis a).flushPending then [] else rest) <:+ (s.axis a).queue := by
      rw [hq]
      split
      · exact List.nil_suffix
      · exact List.suffix_cons g rest
    have hf := stopFrame_setAxis s a { s.axis a with
      queue := if (s.axis a).flushPending then [] else rest
      lastEnd := some (endRecordOf (s.axis a) g rest c)
      progress := none } rfl rfl rfl rfl rfl rfl rfl hs
    dsimp only
    split
    · exact hf.trans (stopFrame_admitReport _ _)
    · exact hf

theorem withdraw_frame (a : AxisId) (s : State) : StopFrame s (withdraw a s) :=
  stopFrame_book s _ s.reports s.freeCount

/-! ### Breaks -/

theorem endBroken_frame (search : AxisId → State → State) (hs : ∀ a s, StopFrame s (search a s)) (b : AxisId)
    (s : State) : StopFrame s (endBroken search b s) := by
  unfold endBroken
  split
  · exact (closeSegment_frame b _ s).trans ((withdraw_frame b _).trans ((hs b _).trans (settle_frame b _ _ _)))
  · exact StopFrame.refl s

theorem breakRecord_frame (search : AxisId → State → State) (hs : ∀ a s, StopFrame s (search a s)) (token : Nat)
    (s : State) : StopFrame s (breakRecord search token s) := by
  unfold breakRecord
  split
  · exact StopFrame.refl s
  · next r _ =>
    exact (stopFrame_book s _ s.reports s.freeCount).trans
      (foldl_stopFrame _ (fun s b => endBroken_frame search hs b s) _ _)

theorem breakSearch_frame (fuel : Nat) (a : AxisId) (s : State) : StopFrame s (breakSearch fuel a s) := by
  induction fuel generalizing a s with
  | zero => exact StopFrame.refl s
  | succ fuel ih =>
    unfold breakSearch
    exact (stopFrame_drawOrder _ s).trans (foldl_stopFrame _ (fun s t => breakRecord_frame _ ih t s) _ _)

theorem notifyJoins_frame (a : AxisId) (c : Cause) (s : State) : StopFrame s (notifyJoins a c s) := by
  unfold notifyJoins
  split
  · exact (withdraw_frame a s).trans (breakSearch_frame _ a _)
  · exact withdraw_frame a s

/-- An end with a cause that is not normal touches nothing outside the axes, the joins and the report queue. -/
theorem endHeld_frame (a : AxisId) (c : Cause) (s : State) : StopFrame s (endHeld a c s) := by
  unfold endHeld
  exact (closeSegment_frame a c s).trans ((notifyJoins_frame a c _).trans (settle_frame a c _ _))

/-- A stop request with a cause that is not normal touches nothing outside the axes, the joins and the report queue
(R118). -/
theorem stopHeld_frame (a : AxisId) (c : Cause) (m : StopMode) (f : Bool) (s : State) :
    StopFrame s (stopHeld a c m f s) := by
  unfold stopHeld applyStop
  split
  · exact StopFrame.refl s
  · exact stopFrame_setAxis s a _ rfl rfl rfl rfl rfl rfl rfl (List.suffix_refl _)
  · next p _ _ =>
    exact (stopFrame_setAxis s a { s.axis a with progress := some p } rfl rfl rfl rfl rfl rfl rfl
      (List.suffix_refl _)).trans (endHeld_frame a _ _)

/-! ### Triggers and steps -/

/-- A write of a trigger slot that keeps its fields. -/
theorem engineFrame_setTrigger (s : State) (i : Fin 24) (t : TriggerSlot) (h : t.fields = (s.trigger i).fields) :
    EngineFrame s (s.setTrigger i t) := by
  constructor
  case fields => intro j; rw [State.trigger_setTrigger]; split <;> simp_all
  case queue => intro b; exact List.suffix_refl _
  all_goals first
    | rfl
    | (intro b; rfl)

theorem applyAction_frame (act : Action) (s : State) : EngineFrame s (applyAction act s) := by
  cases act with
  | outSet n => exact engineFrame_outputs s _ _
  | outClear n => exact engineFrame_outputs s _ _
  | outPulse n w => exact engineFrame_outputs s _ _
  | pwmDuty c d => exact engineFrame_outputs s _ _
  | stopAxis k m => exact (stopHeld_frame k _ m _ s).engine
  | armSlot m =>
    simp only [applyAction, armSlot]
    split
    · exact engineFrame_setTrigger s m _ rfl
    · exact engineFrame_setTrigger s m _ rfl
    · exact EngineFrame.refl s
    · exact EngineFrame.refl s
  | note => exact EngineFrame.refl s

theorem fireSlot_frame (p : Position) (i : Fin 24) (s : State) : EngineFrame s (fireSlot p i s) := by
  unfold fireSlot
  split
  · exact EngineFrame.refl s
  · next f hf =>
    have h1 := engineFrame_setTrigger s i ((s.trigger i).fired f) (by simp [TriggerSlot.fired])
    dsimp only
    split
    · exact (h1.trans (stopFrame_admitReport _ _).engine).trans (applyAction_frame _ _)
    · exact h1.trans (applyAction_frame _ _)

theorem fireAll_frame (p : Position) (set : List (Fin 24)) (s : State) : EngineFrame s (fireAll p set s) :=
  foldl_engineFrame _ (fun s i => fireSlot_frame p i s) set s

theorem zoneRequest_frame (a : AxisId) (s : State) : StopFrame s (zoneRequest a s) := by
  unfold zoneRequest
  split
  · exact stopHeld_frame a _ _ _ s
  · exact StopFrame.refl s

theorem limitRequest_frame (met : Bool) (a : AxisId) (s : State) : StopFrame s (limitRequest met a s) := by
  unfold limitRequest
  split
  · exact stopHeld_frame a _ _ _ s
  · exact StopFrame.refl s

/-- What follows a step: the triggers of its firing set, the SLOW zone's request and the search limit's, in one of three
orders. -/
theorem afterStep_frame (a : AxisId) (d : Direction) (s : State) : EngineFrame s (afterStep a d s) := by
  have hz := fun s => (zoneRequest_frame a s).engine
  have hl := fun met s => (limitRequest_frame met a s).engine
  have hf := fireAll_frame
  have hn : EngineFrame s { s with freeCount := s.freeCount + 1 } :=
    (stopFrame_book s s.joins s.reports _).engine
  unfold afterStep
  dsimp only
  split
  · split
    · exact hz s
    · split
      · exact hn.trans ((hz _).trans ((hf _ _ _).trans (hl _ _)))
      · split
        · exact hn.trans ((hf _ _ _).trans ((hz _).trans (hl _ _)))
        · exact hn.trans ((hf _ _ _).trans ((hl _ _).trans (hz _)))
  · exact (hf _ _ _).trans (hl _ _)

theorem issue_frame (a : AxisId) (l : Leg) (p : Progress) (s : State) : EngineFrame s (issue a l p s) :=
  engineFrame_setAxis s a _ rfl (List.suffix_refl _)

theorem issueStep_frame (a : AxisId) (s : State) : EngineFrame s (issueStep a s) := by
  unfold issueStep
  split
  · exact EngineFrame.refl s
  · split
    · exact EngineFrame.refl s
    · exact (issue_frame a _ _ s).trans (afterStep_frame a _ _)

/-! ### Activation and ends that lead on -/

theorem turn_config (x : Axis) (d : Direction) : (x.turn d).config = x.config := by
  unfold Axis.turn; split <;> rfl

theorem turn_queue (x : Axis) (d : Direction) : (x.turn d).queue = x.queue := by
  unfold Axis.turn; split <;> rfl

theorem startMotion_frame (a : AxisId) (d : Direction) (n : Option Nat) (l : List Leg) (s : State) :
    EngineFrame s (startMotion a d n l s) := by
  unfold startMotion
  refine (engineFrame_setAxis s a _ ?_ ?_).trans (issueStep_frame a _)
  · exact turn_config _ d
  · simp [turn_queue]

theorem startWait_frame (a : AxisId) (d : Option Uptime) (s : State) : StopFrame s (startWait a d s) :=
  stopFrame_setAxis s a _ rfl rfl rfl rfl rfl rfl rfl (List.suffix_refl _)

theorem engineFrame_joins (s : State) (l : List JoinRecord) : EngineFrame s { s with joins := l } :=
  (stopFrame_book s l s.reports s.freeCount).engine

/-- An arrival changes the book of meetings alone (R98). -/
theorem arrive_joins (a : AxisId) (token : Nat) (m : AxisMask) (s : State) :
    arrive a token m s = .mismatch ∨ (∃ l, arrive a token m s = .waits { s with joins := l }) ∨
      ∃ l, arrive a token m s = .released { s with joins := l } (axesOf m) := by
  unfold arrive
  split
  · exact .inr (.inl ⟨_, rfl⟩)
  · split
    · split
      · exact .inr (.inr ⟨_, rfl⟩)
      · exact .inr (.inl ⟨_, rfl⟩)
    · exact .inl rfl

theorem activate_frame (fuel : Nat) (a : AxisId) (s : State) : EngineFrame s (activate fuel a s) := by
  induction fuel generalizing a s with
  | zero => exact EngineFrame.refl s
  | succ fuel ih =>
    unfold activate
    split
    · exact (becomeIdle_frame a s).engine
    · next g rest _ =>
      split
      · exact (hold_frame a _ s).engine
      · split
        · exact (hold_frame a _ s).engine
        · split
          · split
            · exact (closeSegment_frame a _ s).engine.trans (ih a _)
            · exact (endHeld_frame a _ s).engine
          · exact startMotion_frame a _ _ _ s
          · exact (startWait_frame a _ s).engine
          · next token members _ =>
            obtain h | ⟨l, h⟩ | ⟨l, h⟩ := arrive_joins a token members s
            · rw [h]; exact (endHeld_frame a _ s).engine
            · rw [h]; exact (engineFrame_joins s l).trans (startWait_frame a _ _).engine
            · rw [h]
              exact (engineFrame_joins s l).trans
                ((foldl_engineFrame _ (fun s b => (closeSegment_frame b _ s).engine) _ _).trans
                  (foldl_engineFrame _ (fun s b => ih b s) _ _))

theorem activateHead_frame (a : AxisId) (s : State) : EngineFrame s (activateHead a s) := activate_frame _ a s

/-- An end with any cause (R59, R60). -/
theorem endSegment_frame (a : AxisId) (c : Cause) (s : State) : EngineFrame s (endSegment a c s) := by
  unfold endSegment
  split
  · exact ((closeSegment_frame a c s).trans (notifyJoins_frame a c _)).engine.trans (activateHead_frame a _)
  · exact (endHeld_frame a c s).engine

/-- A stop request with any cause (R66). -/
theorem stopSegment_frame (a : AxisId) (c : Cause) (m : StopMode) (f : Bool) (s : State) :
    EngineFrame s (stopSegment a c m f s) := by
  unfold stopSegment applyStop
  split
  · exact EngineFrame.refl s
  · exact engineFrame_setAxis s a _ rfl (List.suffix_refl _)
  · next p _ _ =>
    exact (engineFrame_setAxis s a { s.axis a with progress := some p } rfl (List.suffix_refl _)).trans
      (endSegment_frame a _ _)

/-! ### Changes of accepted levels (R137) -/

theorem limitChanged_frame (a : AxisId) (d : Direction) (s : State) : StopFrame s (limitChanged a d s) := by
  unfold limitChanged
  split
  · split
    · exact stopHeld_frame a _ _ _ s
    · exact StopFrame.refl s
  · exact StopFrame.refl s

theorem slowChanged_frame (a : AxisId) (s : State) : EngineFrame s (slowChanged a s) := by
  unfold slowChanged
  split
  · split
    · split
      · exact stopSegment_frame a _ _ _ s
      · split
        · exact (stopHeld_frame a _ _ _ s).engine
        · exact EngineFrame.refl s
    · exact EngineFrame.refl s
  · exact EngineFrame.refl s

theorem homeChanged_frame (a : AxisId) (s : State) : EngineFrame s (homeChanged a s) := by
  unfold homeChanged
  split
  · split
    · split
      · exact EngineFrame.refl s
      · refine EngineFrame.trans (engineFrame_setAxis s a _ ?_ ?_) (stopSegment_frame a _ _ _ _)
        · rfl
        · exact List.suffix_refl _
    · exact EngineFrame.refl s
  · exact EngineFrame.refl s

theorem alarmChanged_frame (a : AxisId) (s : State) : StopFrame s (alarmChanged a s) := by
  unfold alarmChanged
  split
  all_goals first
    | exact stopHeld_frame a _ _ _ s
    | exact hold_frame a _ s
    | exact StopFrame.refl s

theorem estopAtAxis_frame (a : AxisId) (s : State) : StopFrame s (estopAtAxis a s) := by
  unfold estopAtAxis
  split
  all_goals first
    | exact stopHeld_frame a _ _ _ s
    | exact leaveByEstop_frame a s
    | exact StopFrame.refl s

theorem generalAtAxis_frame (i : Fin 4) (level : Bool) (a : AxisId) (s : State) :
    EngineFrame s (generalAtAxis i level a s) := by
  unfold generalAtAxis
  split
  · split
    · split
      · exact endSegment_frame a _ s
      · exact EngineFrame.refl s
    · exact EngineFrame.refl s
  · exact EngineFrame.refl s

theorem estopInOrder_frame (order : List Receiver) (s : State) : StopFrame s (estopInOrder order s) := by
  refine foldl_stopFrame _ (fun s r => ?_) order s
  cases r with
  | engine a => exact estopAtAxis_frame a s
  | queue => exact stopFrame_admitReport _ s
  | outputs => exact StopFrame.refl s

theorem generalInOrder_frame (i : Fin 4) (level : Bool) (order : List Receiver) (s : State) :
    EngineFrame s (generalInOrder i level order s) := by
  refine foldl_engineFrame _ (fun s r => ?_) order s
  cases r with
  | engine a => exact generalAtAxis_frame i level a s
  | queue => exact (stopFrame_admitReport _ s).engine
  | outputs => exact EngineFrame.refl s

/-- A change that is handed on reaches the engines and the report queue alone (R137). -/
theorem handOn_frame (i : InputId) (level : Bool) (s : State) : EngineFrame s (handOn i level s) := by
  unfold handOn
  split
  · split
    · split
      · exact (limitChanged_frame _ _ s).engine
      · exact (limitChanged_frame _ _ s).engine
      · exact slowChanged_frame _ s
      · exact homeChanged_frame _ s
      · exact (alarmChanged_frame _ s).engine
    · exact EngineFrame.refl s
  · exact (stopFrame_drawOrder _ s).engine.trans (generalInOrder_frame _ _ _ _)
  · split
    · exact ((stopFrame_drawOrder _ s).trans (estopInOrder_frame _ _)).engine
    · exact (stopFrame_admitReport _ s).engine

end Sys2Proof.Machine
end

