-- ==== Sys2Proof/Laws/Ends.lean ====
section
/-! SUPPORT. What the end of an active segment with a cause that holds its axis does, said once: `endHeld_endsHeld` is what
the stop requests, the limits, ALARM and the triggers come to (R59 to R61, R69, R70, R102 to R105). -/

namespace Sys2Proof.Machine

/-- What breaks of meetings do to the axes: each keeps its record, or its JOIN has been broken and it is HELD for that. -/
def BreakFrame (s t : State) : Prop :=
  ∀ b, t.axis b = s.axis b ∨
    (s.axis b).waitingOnJoin = true ∧ (t.axis b).state = .held ∧ (t.axis b).heldCause = .stopped .joinBroken

theorem BreakFrame.of_axes {s t : State} (h : t.axes = s.axes) : BreakFrame s t := fun b => .inl (by simp [State.axis, h])

theorem BreakFrame.trans {s t u : State} (h : BreakFrame s t) (k : BreakFrame t u) : BreakFrame s u := by
  intro b
  rcases k b with e | ⟨w, r⟩
  · rw [e]; exact h b
  · rcases h b with e | ⟨w', -⟩
    · exact .inr ⟨e ▸ w, r⟩
    · exact .inr ⟨w', r⟩

theorem foldl_breakFrame {α : Type} (f : State → α → State) (hf : ∀ s x, BreakFrame s (f s x)) (l : List α) (s : State) :
    BreakFrame s (l.foldl f s) := by
  induction l generalizing s with
  | nil => exact .of_axes rfl
  | cons x l ih => exact (hf s x).trans (ih (f s x))

/-- The axis of which a segment is closed is the only one that changes by it. -/
theorem closeSegment_other (a b : AxisId) (c : Cause) (s : State) (h : b ≠ a) :
    (closeSegment a c s).axis b = s.axis b := by
  obtain ⟨-, e⟩ | ⟨g, rest, -, e⟩ := closeSegment_spec a c s
  · rw [e]
  · rw [e]
    dsimp only
    split <;> exact State.axis_setAxis_ne s a b _ h

theorem endBroken_breakFrame (search : AxisId → State → State) (hs : ∀ a s, BreakFrame s (search a s)) (b : AxisId)
    (s : State) : BreakFrame s (endBroken search b s) := by
  unfold endBroken
  split
  · next w =>
    intro d
    have settled : ∀ (f : Bool) (u : State), settle b .joinBroken f u = hold b (.stopped .joinBroken) u := by
      intro f u; simp [settle]
    dsimp only
    rw [settled]
    by_cases hd : d = b
    · subst hd
      exact .inr ⟨w, by simp [hold], by simp [hold]⟩
    · have e : (hold b (.stopped .joinBroken) (search b (withdraw b (closeSegment b .joinBroken s)))).axis d =
          (search b (withdraw b (closeSegment b .joinBroken s))).axis d := State.axis_setAxis_ne _ _ _ _ hd
      have e' : (withdraw b (closeSegment b .joinBroken s)).axis d = s.axis d := closeSegment_other b d _ s hd
      rw [e]
      rcases hs b (withdraw b (closeSegment b .joinBroken s)) d with k | k
      · exact .inl (k.trans e')
      · rw [e'] at k; exact .inr k
  · exact .of_axes rfl

theorem breakSearch_breakFrame (fuel : Nat) (a : AxisId) (s : State) : BreakFrame s (breakSearch fuel a s) := by
  induction fuel generalizing a s with
  | zero => exact .of_axes rfl
  | succ fuel ih =>
    unfold breakSearch
    obtain ⟨n, hn⟩ := (drawOrder_spec ((s.joins.filter fun r => r.member a && !r.here a).map JoinRecord.token) s).2
    dsimp only
    rw [hn]
    refine (BreakFrame.of_axes (s := s) (t := { s with freeCount := n }) rfl).trans (foldl_breakFrame _ (fun u t => ?_) _ _)
    unfold breakRecord
    split
    · exact .of_axes rfl
    · exact (BreakFrame.of_axes rfl).trans (foldl_breakFrame _ (fun s b => endBroken_breakFrame _ ih b s) _ _)

theorem notifyJoins_breakFrame (a : AxisId) (c : Cause) (s : State) : BreakFrame s (notifyJoins a c s) := by
  unfold notifyJoins
  dsimp only
  split
  · exact (BreakFrame.of_axes rfl).trans (breakSearch_breakFrame _ a _)
  · exact .of_axes rfl

/-- An axis in no open record has nothing to withdraw and nothing to break. -/
theorem notifyJoins_alone (a : AxisId) (c : Cause) (s : State)
    (h : ∀ r ∈ s.joins, r.member a = false ∧ r.here a = false) : notifyJoins a c s = s := by
  have hw : withdraw a s = s := by
    have : (s.joins.filterMap fun r => if r.here a then
        if r.arrived &&& ~~~axisBit a = 0 then none else some { r with arrived := r.arrived &&& ~~~axisBit a }
        else some r) = s.joins := by
      rw [List.filterMap_congr (g := some) (fun r hr => by simp [(h r hr).2])]
      exact List.filterMap_some
    unfold withdraw
    rw [this]
  have hb : ∀ n, breakSearch n a s = s := by
    intro n
    cases n with
    | zero => rfl
    | succ n =>
      have : s.joins.filter (fun r => r.member a && !r.here a) = [] :=
        List.filter_eq_nil_iff.2 fun r hr => by simp [(h r hr).1]
      simp [breakSearch, this, drawOrder]
  simp [notifyJoins, hw, hb]

/-- The end of the active segment with a cause that is neither normal nor ESTOP, whatever meetings it breaks. -/
theorem endHeld_endsHeld (a : AxisId) (g : Segment) (rest : List Segment) (p : Progress) (c : Cause) (s : State)
    (hq : (s.axis a).queue = g :: rest) (hp : (s.axis a).progress = some p) (hn : c.normal = false) (he : c ≠ .estop) :
    s.EndsHeld a g rest p c (.next (endHeld a c s)) := by
  have hf : (s.axis a).flushPending = p.flushPending := by simp [Axis.flushPending, hp]
  have hr : endRecordOf (s.axis a) g rest c = s.endRecord a g rest p c := by
    simp [endRecordOf, State.endRecord, hp, hf]
  have hc : closeSegment a c s = admitReport (.segmentDone a (s.endRecord a g rest p c)) (s.setAxis a { s.axis a with
      queue := if p.flushPending then [] else rest, lastEnd := some (s.endRecord a g rest p c), progress := none }) := by
    simp [closeSegment, hq, hn, hf, hr]
  have hs : ∀ u, settle a c p.flushPending u = if (c == .stoppedByOrder && p.flushPending) = true then becomeIdle a u
      else hold a (.stopped c) u := by
    intro u; simp [settle, he]
  let m := notifyJoins a c (closeSegment a c s)
  have ha : m.axis a = (closeSegment a c s).axis a := by
    rcases notifyJoins_breakFrame a c (closeSegment a c s) a with k | ⟨w, -⟩
    · exact k
    · rw [hc] at w
      simp [Axis.waitingOnJoin, Axis.active] at w
  have ho : endHeld a c s = settle a c p.flushPending m := by simp [endHeld, hf, m]
  have frame := endHeld_frame a c s
  refine ⟨_, rfl, ?_, ?_, frame.inputs, frame.outputs, frame.pwm, frame.triggers, frame.profiles, frame.line,
    frame.uptime, ?_⟩
  · rw [ho, hs]
    split <;> rename_i hi <;> simp [becomeIdle, hold, State.heldAfter, ha, hc, hi]
  · intro b hb
    have e : (endHeld a c s).axis b = m.axis b := by
      rw [ho, hs]
      split <;> exact State.axis_setAxis_ne _ _ _ _ hb
    rw [e, ← closeSegment_other a b c s hb]
    rcases notifyJoins_breakFrame a c (closeSegment a c s) b with k | ⟨-, k⟩
    · exact .inl k
    · exact .inr k
  · intro alone
    have hm : m = closeSegment a c s := notifyJoins_alone a c _ (by rw [hc]; exact alone)
    rw [ho, hs, hm, hc]
    split <;> rename_i hi <;>
      simp [becomeIdle, hold, State.heldAfter, hi, State.setAxis, State.axis, admitReport, Vector.set_set]

/-- A ramped request on a RUNNING axis walks where `walkFrom` gives a walk, and else ends the segment at once (R30, R32 to
R34, R67). -/
theorem rampedStop_walkFrom (a : AxisId) (g : Segment) (p : Progress) (c : Cause) (s : State)
    (hr : (s.axis a).currentRate = p.rate) :
    rampedStop s (s.axis a) g p c = match s.walkFrom a g p with
      | none => .ends p c
      | some (k, legs) =>
        .walks { p with walk := some (Track.start legs), walkProfile := some k, recordedCause := some c } := by
  have hk : stopProfile g (s.axis a).config = g.work.profile.or (s.axis a).config.stopProfile := by
    unfold stopProfile
    split <;> simp_all
  simp only [rampedStop, State.walkFrom, hk, hr]
  cases g.work.profile.or (s.axis a).config.stopProfile with
  | none => rfl
  | some k =>
    cases hc : p.count <;>
      · simp only [walkLegs, hc, legsOf, walkStages, usedStages]
        generalize List.map _ _ = l
        cases l <;> rfl

end Sys2Proof.Machine
end

