-- ==== Sys2Proof/Laws/Fields.lean ====
section
/-! SUPPORT. Each field reader gives back what the field's bytes were written from (R168, R169, R170, R171). -/

namespace Sys2Proof.Machine

theorem leBytes_two (n : Nat) : leBytes 2 n = [BitVec.ofNat 8 n, BitVec.ofNat 8 (n / 256)] := rfl

theorem leBytes_three (n : Nat) :
    leBytes 3 n = [BitVec.ofNat 8 n, BitVec.ofNat 8 (n / 256), BitVec.ofNat 8 (n / 256 / 256)] := rfl

theorem le2_ofNat {n : Nat} (h : n < 65536) : le2 (BitVec.ofNat 8 n) (BitVec.ofNat 8 (n / 256)) = n := by
  simp only [le2, BitVec.toNat_ofNat]; omega

theorem le3_ofNat {n : Nat} (h : n < 16777216) :
    le3 (BitVec.ofNat 8 n) (BitVec.ofNat 8 (n / 256)) (BitVec.ofNat 8 (n / 256 / 256)) = n := by
  simp only [le3, BitVec.toNat_ofNat]; omega

theorem readPosition_ofNat (p : Position) :
    readPosition (BitVec.ofNat 8 p.toNat) (BitVec.ofNat 8 (p.toNat / 256)) (BitVec.ofNat 8 (p.toNat / 256 / 256)) = p := by
  rw [readPosition, le3_ofNat p.isLt, BitVec.ofNat_toNat, BitVec.setWidth_eq]

theorem readPosition_extract (p : Position) :
    readPosition (p.extractLsb' 0 8) (p.extractLsb' 8 8) (p.extractLsb' 16 8) = p := by
  apply BitVec.eq_of_toNat_eq
  have h := p.isLt
  simp only [readPosition, le3, BitVec.toNat_ofNat, BitVec.extractLsb'_toNat, Nat.shiftRight_eq_div_pow]
  omega

theorem positionBytes_extract (p : Position) :
    positionBytes p = [p.extractLsb' 0 8, p.extractLsb' 8 8, p.extractLsb' 16 8] := by
  simp only [positionBytes, leBytes_three, List.cons.injEq, and_true]
  refine ⟨?_, ?_, ?_⟩ <;> apply BitVec.eq_of_toNat_eq <;>
    simp only [BitVec.toNat_ofNat, BitVec.extractLsb'_toNat, Nat.shiftRight_eq_div_pow] <;> omega

theorem readIndex_ofNat {n : Nat} (i : Fin n) (h : n ≤ 256) : readIndex n (BitVec.ofNat 8 i.val) = some i := by
  have hi : i.val % 2 ^ 8 = i.val := Nat.mod_eq_of_lt (by omega)
  simp [readIndex, Fin.ext_iff]
  omega

theorem readFlag_flagByte (b : Bool) : readFlag (flagByte b) = some b := by cases b <;> rfl

theorem readAxisMask_setWidth (m : AxisMask) : readAxisMask (m.setWidth 8) = some m := by
  revert m; decide

theorem readProfile_profileByte (p : Option ProfileId) : readProfile (profileByte p) = some p := by
  revert p; decide

theorem readStopMode_flagByte (b : Bool) :
    readStopMode (flagByte b) = some (if b then StopMode.abrupt else .ramped) := by cases b <;> rfl

theorem readLinkLoss_code (l : LinkLossAction) : readLinkLoss (linkLossCode l) = some l := by cases l <;> rfl

theorem readQualifier_code (q : Qualifier) : readQualifier (qualifierCode q) = some q := by cases q <;> rfl

theorem readTriggerMode_code (m : TriggerMode) : readTriggerMode (triggerModeCode m) = some m := by cases m <;> rfl

theorem readStopMode_code (m : StopMode) : readStopMode (stopModeCode m) = some m := by cases m <;> rfl

theorem readRate_ofNat {n : Nat} (h : n < 65536) :
    readRate (BitVec.ofNat 8 n) (BitVec.ofNat 8 (n / 256)) = if 1 ≤ n ∧ n ≤ 40000 then some n else none := by
  rw [readRate, le2_ofNat h]

theorem readCount_ofNat {n : Nat} (h : n < 16777216) :
    readCount (BitVec.ofNat 8 n) (BitVec.ofNat 8 (n / 256)) (BitVec.ofNat 8 (n / 256 / 256)) =
      if 1 ≤ n ∧ n ≤ 8388607 then some n else none := by
  rw [readCount, le3_ofNat h]

theorem readTime_ofNat {n : Nat} (h : n < 65536) :
    readTime (BitVec.ofNat 8 n) (BitVec.ofNat 8 (n / 256)) = if 1 ≤ n then some n else none := by
  rw [readTime, le2_ofNat h]

/-! ### Whole records -/

/-- A configuration record is read back from its eleven bytes, and one out of range is refused (R37, R169). -/
theorem readConfig_configBytes {c : AxisConfig} (hc : c.fitsBytes) :
    ∃ b0 b1 b2 b3 b4 b5 b6 b7 b8 b9 b10, configBytes c = [b0, b1, b2, b3, b4, b5, b6, b7, b8, b9, b10] ∧
      readConfig b0 b1 b2 b3 b4 b5 b6 b7 b8 b9 b10 = if c.inRange then some c else none := by
  obtain ⟨h1, h2, h3, h4⟩ :
      c.maxRate < 65536 ∧ c.pullInRate < 65536 ∧ c.slowThreshold < 65536 ∧ c.stepPulseWidth < 256 := by
    simpa [AxisConfig.fitsBytes] using hc
  refine ⟨_, _, _, _, _, _, _, _, _, _, _, rfl, ?_⟩
  have hw : (BitVec.ofNat 8 c.stepPulseWidth).toNat = c.stepPulseWidth := by simp only [BitVec.toNat_ofNat]; omega
  simp only [readConfig, readRate_ofNat h1, readRate_ofNat h2, readRate_ofNat h3, readProfile_profileByte,
    readLinkLoss_code, readFlag_flagByte, hw, AxisConfig.inRange, rateInRange]
  by_cases a1 : 1 ≤ c.maxRate ∧ c.maxRate ≤ 40000
  · by_cases a2 : 1 ≤ c.pullInRate ∧ c.pullInRate ≤ 40000
    · by_cases a3 : 1 ≤ c.slowThreshold ∧ c.slowThreshold ≤ 40000
      · by_cases a4 : 2 ≤ c.stepPulseWidth ∧ c.stepPulseWidth ≤ 100
        · have a5 : ¬ (c.stepPulseWidth < 2 ∨ 100 < c.stepPulseWidth) := by omega
          simp only [if_neg a5, a1, a2, a3, a4]; rfl
        · have a5 : c.stepPulseWidth < 2 ∨ 100 < c.stepPulseWidth := by omega
          simp only [if_pos a5, a1, a2, a3, a4]; rfl
      · simp [a3]
    · simp [a2]
  · simp [a1]

/-- The stages of a profile are read back from their bytes; a stage out of range makes the list unreadable (R21, R169). -/
theorem readStages_stageBytes (l : List Stage) (h : ∀ x ∈ l, x.rate < 65536 ∧ x.steps < 256) :
    readStages (stageBytes l) = if l.all Stage.inRange then some l else none := by
  induction l with
  | nil => rfl
  | cons x l ih =>
    have hx := h x (by simp)
    have hn : (BitVec.ofNat 8 x.steps).toNat = x.steps := by simp only [BitVec.toNat_ofNat]; omega
    have hz : BitVec.ofNat 8 x.steps = 0 ↔ x.steps = 0 := by
      rw [← BitVec.toNat_inj, hn]; rfl
    have ih' := ih fun y hy => h y (by simp [hy])
    have e : stageBytes (x :: l) =
        BitVec.ofNat 8 x.rate :: BitVec.ofNat 8 (x.rate / 256) :: BitVec.ofNat 8 x.steps :: stageBytes l := rfl
    have hin : x.inRange = (decide (1 ≤ x.rate ∧ x.rate ≤ 40000) && decide (1 ≤ x.steps ∧ x.steps ≤ 255)) := rfl
    rw [e, readStages, ih', readRate_ofNat hx.1, List.all_cons, hin]
    by_cases a1 : 1 ≤ x.rate ∧ x.rate ≤ 40000
    · by_cases a2 : x.steps = 0
      · simp [a1, a2]
      · have a3 : 1 ≤ x.steps ∧ x.steps ≤ 255 := by omega
        have hz2 : ¬ BitVec.ofNat 8 x.steps = 0#8 := fun h0 => a2 (hz.mp h0)
        cases a4 : l.all Stage.inRange <;> simp [a1, hz2, a3, hx.2, Nat.mod_eq_of_lt]
    · simp [a1]

/-- An action is read back from its four bytes; one out of range is refused (R110, R171). -/
theorem readAction_actionBytes {a : Action} (h : a.fitsBytes) :
    ∃ b0 b1 b2 b3, actionBytes a = [b0, b1, b2, b3] ∧
      readAction b0 b1 b2 b3 = if a.inRange then some a else none := by
  cases a with
  | outSet n => exact ⟨_, _, _, _, rfl, by simp [readAction, readIndex_ofNat n (by decide), zeroBytes, Action.inRange]⟩
  | outClear n => exact ⟨_, _, _, _, rfl, by simp [readAction, readIndex_ofNat n (by decide), zeroBytes, Action.inRange]⟩
  | outPulse n w =>
    have hw : w < 65536 := by simpa [Action.fitsBytes] using h
    refine ⟨_, _, _, _, rfl, ?_⟩
    have hw' : w ≤ 65535 := by omega
    by_cases h1 : 1 ≤ w
    · simp [readAction, readIndex_ofNat n (by decide), readTime_ofNat hw, Action.inRange, h1, hw']
    · simp [readAction, readIndex_ofNat n (by decide), readTime_ofNat hw, Action.inRange, h1]
  | pwmDuty c d =>
    have hd : d < 65536 := by simpa [Action.fitsBytes] using h
    have hd' : d ≤ 65535 := by omega
    exact ⟨_, _, _, _, rfl, by
      simp [readAction, readIndex_ofNat c (by decide), le2_ofNat hd, Action.inRange, hd']⟩
  | stopAxis k m =>
    exact ⟨_, _, _, _, rfl, by
      simp [readAction, readIndex_ofNat k (by decide), readStopMode_code, zeroBytes, Action.inRange]⟩
  | armSlot m => exact ⟨_, _, _, _, rfl, by simp [readAction, readIndex_ofNat m (by decide), zeroBytes, Action.inRange]⟩
  | note => exact ⟨_, _, _, _, rfl, by simp [readAction, zeroBytes, Action.inRange]⟩

/-- The fields of a trigger are read back from their eleven bytes (R111, R171). -/
theorem readTriggerFields_bytes {f : TriggerFields} (h : f.action.fitsBytes) :
    ∃ b0 b1 b2 b3 b4 b5 b6 b7 b8 b9 b10,
      triggerFieldBytes (some f) = [b0, b1, b2, b3, b4, b5, b6, b7, b8, b9, b10] ∧
        readTriggerFields b0 b1 b2 b3 b4 b5 b6 b7 b8 b9 b10 = if f.action.inRange then some f else none := by
  obtain ⟨c, a0, a1, a2, e, hr⟩ := readAction_actionBytes h
  refine ⟨_, _, _, _, _, _, _, _, _, _, _, by
    simp only [triggerFieldBytes, e, positionBytes, leBytes_three, List.cons_append, List.nil_append]; rfl, ?_⟩
  simp only [readTriggerFields, readIndex_ofNat f.axis (by decide), readQualifier_code, readTriggerMode_code,
    readFlag_flagByte, hr, readPosition_ofNat]
  by_cases ha : f.action.inRange <;> simp [ha]

/-- A segment is read back from the ten bytes of its QUEUE_SEGMENT, and one out of range is refused (R10, R170). -/
theorem readSegment_segmentBytes (a : AxisId) {g : Segment} (h : g.work.fitsBytes) :
    ∃ k tag fl p0 p1 p2 p3 p4 p5, segmentBytes a g = [BitVec.ofNat 8 a.val, k, tag, fl, p0, p1, p2, p3, p4, p5] ∧
      readSegment a k tag fl p0 p1 p2 p3 p4 p5 = if g.work.inRange a then some g else none := by
  obtain ⟨tag, report, work⟩ := g
  cases work with
  | move count rate profile negative =>
    obtain ⟨h1, h2⟩ : count < 16777216 ∧ rate < 65536 := by simpa [Work.fitsBytes] using h
    refine ⟨_, _, _, _, _, _, _, _, _, rfl, ?_⟩
    have hf : readSegmentFlags 0x03 (bitsByte [report, negative]) = some () ∧
        (bitsByte [report, negative]).getLsbD 0 = report ∧ (bitsByte [report, negative]).getLsbD 1 = negative := by
      clear h; revert report negative; decide
    simp at hf
    by_cases a1 : 1 ≤ count ∧ count ≤ 8388607 <;> by_cases a2 : 1 ≤ rate ∧ rate ≤ 40000 <;>
      simp [readSegment, kindCode, Work.kind, segmentFlags, hf, readCount_ofNat h1, readRate_ofNat h2,
        readProfile_profileByte, Work.inRange, countInRange, rateInRange, a1, a2]
  | goto target rate profile =>
    have h2 : rate < 65536 := by simpa [Work.fitsBytes] using h
    refine ⟨_, _, _, _, _, _, _, _, _, rfl, ?_⟩
    have hf : readSegmentFlags 0x01 (bitsByte [report]) = some () ∧ (bitsByte [report]).getLsbD 0 = report := by
      clear h; revert report; decide
    simp at hf
    have hp := readPosition_ofNat target
    simp at hp
    by_cases a2 : 1 ≤ rate ∧ rate ≤ 40000 <;>
      simp [readSegment, kindCode, Work.kind, segmentFlags, hf, hp, readRate_ofNat h2,
        readProfile_profileByte, Work.inRange, rateInRange, a2]
  | run rate profile negative seekSlow =>
    have h2 : rate < 65536 := by simpa [Work.fitsBytes] using h
    refine ⟨_, _, _, _, _, _, _, _, _, rfl, ?_⟩
    have hf : readSegmentFlags 0x07 (bitsByte [report, negative, seekSlow]) = some () ∧
        (bitsByte [report, negative, seekSlow]).getLsbD 0 = report ∧
        (bitsByte [report, negative, seekSlow]).getLsbD 1 = negative ∧
        (bitsByte [report, negative, seekSlow]).getLsbD 2 = seekSlow := by
      clear h; revert report negative seekSlow; decide
    simp at hf
    by_cases a2 : 1 ≤ rate ∧ rate ≤ 40000 <;>
      simp [readSegment, kindCode, Work.kind, segmentFlags, hf, zeroBytes, readRate_ofNat h2,
        readProfile_profileByte, Work.inRange, rateInRange, a2]
  | home limit rate profile negative zero abrupt =>
    obtain ⟨h1, h2⟩ : limit < 16777216 ∧ rate < 65536 := by simpa [Work.fitsBytes] using h
    refine ⟨_, _, _, _, _, _, _, _, _, rfl, ?_⟩
    have hf : readSegmentFlags 0x1B (bitsByte [report, negative, false, zero, abrupt]) = some () ∧
        (bitsByte [report, negative, false, zero, abrupt]).getLsbD 0 = report ∧
        (bitsByte [report, negative, false, zero, abrupt]).getLsbD 1 = negative ∧
        (bitsByte [report, negative, false, zero, abrupt]).getLsbD 3 = zero ∧
        (bitsByte [report, negative, false, zero, abrupt]).getLsbD 4 = abrupt := by
      clear h; revert report negative zero abrupt; decide
    simp at hf
    by_cases a1 : 1 ≤ limit ∧ limit ≤ 8388607 <;> by_cases a2 : 1 ≤ rate ∧ rate ≤ 40000 <;>
      simp [readSegment, kindCode, Work.kind, segmentFlags, hf, readCount_ofNat h1, readRate_ofNat h2,
        readProfile_profileByte, Work.inRange, countInRange, rateInRange, a1, a2]
  | dwell time =>
    have h1 : time < 65536 := by simpa [Work.fitsBytes] using h
    have h1' : time ≤ 65535 := by omega
    refine ⟨_, _, _, _, _, _, _, _, _, rfl, ?_⟩
    have hf : readSegmentFlags 0x01 (bitsByte [report]) = some () ∧ (bitsByte [report]).getLsbD 0 = report := by
      clear h; revert report; decide
    simp at hf
    by_cases a1 : 1 ≤ time <;>
      simp [readSegment, kindCode, Work.kind, segmentFlags, hf, readTime_ofNat h1, zeroBytes, Work.inRange, a1, h1']
  | join token members =>
    have h1 : token < 256 := by simpa [Work.fitsBytes] using h
    have ht : (BitVec.ofNat 8 token).toNat = token := by simp only [BitVec.toNat_ofNat]; omega
    refine ⟨_, _, _, _, _, _, _, _, _, rfl, ?_⟩
    have hf : readSegmentFlags 0x01 (bitsByte [report]) = some () ∧ (bitsByte [report]).getLsbD 0 = report := by
      clear h; revert report; decide
    have hm : (a ∉ axesOf members) ↔ members.getLsbD a.val = false := by clear hf h; revert a members; decide
    by_cases a1 : token = 0 ∨ 63 < token
    · have a2 : ¬ (1 ≤ token ∧ token ≤ 63) := by omega
      have a3 : ¬ (1 ≤ token ∧ token ≤ 63 ∧ 2 ≤ (axesOf members).length) := by omega
      simp only [readSegment, kindCode, Work.kind, segmentFlags, hf, readAxisMask_setWidth, zeroBytes, Work.inRange, ht,
        if_pos a1, a3]
      rfl
    · have a2 : 1 ≤ token ∧ token ≤ 63 := by omega
      have e : readSegment a 6 tag (bitsByte [report]) (BitVec.ofNat 8 token) (members.setWidth 8) 0 0 0 0 =
          if (axesOf members).length < 2 ∨ a ∉ axesOf members then none
          else some { tag := tag, report := report, work := .join token members } := by
        simp only [readSegment, hf, readAxisMask_setWidth, zeroBytes, ht]
        simp [a1]
      have e' : (Work.join token members).inRange a =
          !decide ((axesOf members).length < 2 ∨ a ∉ axesOf members) := by
        simp only [Work.inRange, a2, true_and, hm]
        cases members.getLsbD a.val <;> by_cases hl : (axesOf members).length < 2 <;> simp [hl]
        omega
      simp only [kindCode, Work.kind, segmentFlags, e, e']
      by_cases a4 : (axesOf members).length < 2 ∨ a ∉ axesOf members
      · rw [if_pos a4, decide_eq_true a4]; rfl
      · rw [if_neg a4, decide_eq_false a4]; rfl
  | waitInput input wanted timeout =>
    have h1 : timeout < 65536 := by simpa [Work.fitsBytes] using h
    have h1' : timeout ≤ 65535 := by omega
    refine ⟨_, _, _, _, _, _, _, _, _, rfl, ?_⟩
    have hf : readSegmentFlags 0x01 (bitsByte [report]) = some () ∧ (bitsByte [report]).getLsbD 0 = report := by
      clear h; revert report; decide
    simp at hf
    simp [readSegment, kindCode, Work.kind, segmentFlags, hf, readIndex_ofNat input (by decide), readFlag_flagByte,
      le2_ofNat h1, zeroBytes, Work.inRange, h1']

end Sys2Proof.Machine
end

