-- ==== Sys2Proof/Laws/Line.lean ====
section
/-! SUPPORT. What a frame does, said once: a frame the part does not take, a supervising frame, an order that is executed,
one that is answered from the replay cache, and a broadcast one (R155 to R162). -/

namespace Sys2Proof.Machine

/-- A complete frame that reaches the part is acted on in the state in which it has been received whole. -/
theorem onFrame_listens {s : State} (f : State → State) (hl : s.Listens) : onFrame f s = f s.framed := by
  obtain ⟨hr, hq, hs⟩ := hl
  cases hrec : s.line.receive with
  | inFrame => simp [onFrame, hr, hq, hrec, State.framed, State.setReceive]
  | between =>
    have hstay := hs hrec
    cases htr : s.line.transmit with
    | silent => simp [onFrame, hr, hq, hrec, htr, State.framed, State.setReceive, beginFrame]
    | built r =>
      have hrs : r.restarts = false := by simpa [State.restartWaiting, htr] using hstay
      simp [onFrame, hr, hq, hrec, htr, State.framed, State.setReceive, State.setTransmit, beginFrame, hrs]
    | sending r b c => simp [State.transmitting, htr] at hq

/-- A supervising frame leaves the part as `heard` says. -/
theorem supervise_framed (s : State) : supervise s.framed = s.heard := by
  cases hl : s.line.link with
  | up =>
    by_cases ht : s.line.timeout = 0
    · simp [supervise, State.heard, State.framed, hl, ht]
    · simp [supervise, State.heard, State.framed, hl, ht, State.deadlineIn]
  | lost => simp [supervise, State.heard, State.framed, hl, State.deadlineIn]

/-- Receiving a frame does not change the address. -/
@[simp] theorem framed_address (s : State) : s.framed.line.address = s.line.address := rfl

/-- A frame for the station is found to be for it. -/
theorem addressee_station {s : State} {h : Header} (ht : s.Takes h) : addressee s.framed.line h.station = .station := by
  obtain ⟨_, ⟨h1, h2⟩, h3⟩ := ht
  have hne : s.line.address.toNat ≠ 31 := by omega
  simp [addressee, LineInterface.addressed, h1, h2, h3, hne]

/-- An order for the station reaches the replay cache after the link has heard it. -/
theorem receiveOrder_takes {s : State} {h : Header} (code : Byte) (b r : Bool) (f : State → Verdict) (ht : s.Takes h) :
    receiveOrder code b r f h s = addressedOrder code r f h.seq s.heard := by
  simp only [receiveOrder, onFrame_listens _ ht.listens, addressee_station ht, supervise_framed]

/-- The replay cache is not touched by a frame's reception. -/
@[simp] theorem heard_cache (s : State) : s.heard.line.cache = s.line.cache := rfl

/-- An order whose sequence the cache does not hold is executed. -/
theorem receiveOrder_fresh {s : State} {h : Header} (code : Byte) (b r : Bool) (f : State → Verdict) (ht : s.Takes h)
    (hf : s.Fresh h) : receiveOrder code b r f h s = executeOrder code r f h.seq s.heard := by
  rw [receiveOrder_takes code b r f ht, addressedOrder]
  cases hc : s.line.cache with
  | none => simp [hc]
  | some e => simp [hc, hf e hc]

/-- What an executed order leaves: the state of its verdict, answered. RESTART's reply is marked besides. -/
theorem executeOrder_spec (code : Byte) (f : State → Verdict) (h : Header) (s : State) :
    executeOrder code false f h.seq s =
      match f s with
      | .accepted t result => t.answered h code 0 result
      | .refused c => s.answered h code (outcomeCode c) [] := by
  cases hv : f s <;> simp [executeOrder, hv, State.answered, State.replying, buildReply, State.setTransmit, replyPayload,
    Verdict.stateFrom, outcomeCode, LineInterface.replyStation]

/-- An executed order of a known code but RESTART: its verdict, answered. -/
theorem takeOrder_fresh {s : State} {h : Header} {c : OrderCode} (f : State → Verdict) (ht : s.Takes h) (hf : s.Fresh h)
    (hc : c ≠ .restart) :
    takeOrder c f h s =
      match f s.heard with
      | .accepted t result => t.answered h (orderByte c) 0 result
      | .refused k => s.heard.answered h (orderByte c) (outcomeCode k) [] := by
  have hb : (c == OrderCode.restart) = false := by simpa using hc
  rw [takeOrder, hb, receiveOrder_fresh _ _ _ _ ht hf, executeOrder_spec]

/-- An accepted order: the state it leaves, answered with its result. -/
theorem takeOrder_accepted {s t : State} {h : Header} {c : OrderCode} {f : State → Verdict} {result : List Byte}
    (ht : s.Takes h) (hf : s.Fresh h) (hc : c ≠ .restart) (hv : f s.heard = .accepted t result) :
    takeOrder c f h s = t.answered h (orderByte c) 0 result := by
  rw [takeOrder_fresh f ht hf hc, hv]

/-- A refused order: nothing but the answer with its code. -/
theorem takeOrder_refused {s : State} {h : Header} {c : OrderCode} {f : State → Verdict} {k : OutcomeCode}
    (ht : s.Takes h) (hf : s.Fresh h) (hc : c ≠ .restart) (hv : f s.heard = .refused k) :
    takeOrder c f h s = s.heard.answered h (orderByte c) (outcomeCode k) [] := by
  rw [takeOrder_fresh f ht hf hc, hv]

/-- A repeated order is answered from the cache. -/
theorem receiveOrder_repeated {s : State} {h : Header} {payload : List Byte} (code : Byte) (b r : Bool)
    (f : State → Verdict) (ht : s.Takes h) (hc : s.line.cache = some (h.seq, payload)) :
    receiveOrder code b r f h s = s.heard.replying h payload false := by
  simp [receiveOrder_takes code b r f ht, addressedOrder, hc, buildReply, State.setTransmit, State.replying,
    LineInterface.replyStation]

/-- A broadcast order: carried out without a reply when it is one of those a station carries out, and heard in any case. -/
theorem receiveOrder_broadcast {s : State} {h : Header} (code : Byte) (b r : Bool) (f : State → Verdict)
    (hl : s.Listens) (hb : h.station.toNat = 31) :
    receiveOrder code b r f h s = if b then (f s.heard).stateFrom s.heard else s.heard := by
  simp [receiveOrder, onFrame_listens _ hl, addressee, hb, supervise_framed]

end Sys2Proof.Machine
end

