-- ==== Sys2Proof/Laws/PerInstr.lean ====
section
/-! SUPPORT. Statements about every command, one lemma each. `payloadBound`: a well-formed command that is a whole frame has at
most 60 payload bytes, so an order has at most 59 parameter bytes (R154, R161). -/

namespace Sys2Proof.Laws

open Sys2Proof.Machine

/-- A well-formed command stands for a frame of at most 60 payload bytes, if it stands for a frame (R154). -/
def payloadBound.Statement (i : Instr) : Prop :=
  i.wellFormed = true → ∀ f, i.frame? = some f → f.payload.length ≤ 60

/-- The check of the payload is the bound. -/
theorem payloadBound_of_fits (i : Instr) : payloadBound.Statement i := by
  intro h f hf
  have hp : i.payloadFits = true := (Bool.and_eq_true_iff.mp h).1
  simp only [Instr.payloadFits, hf] at hp
  exact of_decide_eq_true hp

theorem payloadBound.identify (h : Header) (params : List Byte) : payloadBound.Statement (.identify h params) :=
  payloadBound_of_fits _

theorem payloadBound.getStatus (h : Header) (params : List Byte) : payloadBound.Statement (.getStatus h params) :=
  payloadBound_of_fits _

theorem payloadBound.setLink (h : Header) (params : List Byte) : payloadBound.Statement (.setLink h params) :=
  payloadBound_of_fits _

theorem payloadBound.getLinkStats (h : Header) (params : List Byte) : payloadBound.Statement (.getLinkStats h params) :=
  payloadBound_of_fits _

theorem payloadBound.restart (h : Header) (params : List Byte) : payloadBound.Statement (.restart h params) :=
  payloadBound_of_fits _

theorem payloadBound.getTime (h : Header) (params : List Byte) : payloadBound.Statement (.getTime h params) :=
  payloadBound_of_fits _

theorem payloadBound.setAxis (h : Header) (params : List Byte) : payloadBound.Statement (.setAxis h params) :=
  payloadBound_of_fits _

theorem payloadBound.getAxis (h : Header) (params : List Byte) : payloadBound.Statement (.getAxis h params) :=
  payloadBound_of_fits _

theorem payloadBound.enable (h : Header) (params : List Byte) : payloadBound.Statement (.enable h params) :=
  payloadBound_of_fits _

theorem payloadBound.disable (h : Header) (params : List Byte) : payloadBound.Statement (.disable h params) :=
  payloadBound_of_fits _

theorem payloadBound.setPosition (h : Header) (params : List Byte) : payloadBound.Statement (.setPosition h params) :=
  payloadBound_of_fits _

theorem payloadBound.getAxisState (h : Header) (params : List Byte) : payloadBound.Statement (.getAxisState h params) :=
  payloadBound_of_fits _

theorem payloadBound.resume (h : Header) (params : List Byte) : payloadBound.Statement (.resume h params) :=
  payloadBound_of_fits _

theorem payloadBound.stop (h : Header) (params : List Byte) : payloadBound.Statement (.stop h params) :=
  payloadBound_of_fits _

theorem payloadBound.queueSegment (h : Header) (params : List Byte) : payloadBound.Statement (.queueSegment h params) :=
  payloadBound_of_fits _

theorem payloadBound.flushQueue (h : Header) (params : List Byte) : payloadBound.Statement (.flushQueue h params) :=
  payloadBound_of_fits _

theorem payloadBound.peekQueue (h : Header) (params : List Byte) : payloadBound.Statement (.peekQueue h params) :=
  payloadBound_of_fits _

theorem payloadBound.defineProfile (h : Header) (params : List Byte) : payloadBound.Statement (.defineProfile h params) :=
  payloadBound_of_fits _

theorem payloadBound.readProfile (h : Header) (params : List Byte) : payloadBound.Statement (.readProfile h params) :=
  payloadBound_of_fits _

theorem payloadBound.dropProfile (h : Header) (params : List Byte) : payloadBound.Statement (.dropProfile h params) :=
  payloadBound_of_fits _

theorem payloadBound.setTrigger (h : Header) (params : List Byte) : payloadBound.Statement (.setTrigger h params) :=
  payloadBound_of_fits _

theorem payloadBound.armTriggers (h : Header) (params : List Byte) : payloadBound.Statement (.armTriggers h params) :=
  payloadBound_of_fits _

theorem payloadBound.disarmTriggers (h : Header) (params : List Byte) : payloadBound.Statement (.disarmTriggers h params) :=
  payloadBound_of_fits _

theorem payloadBound.clearTriggers (h : Header) (params : List Byte) : payloadBound.Statement (.clearTriggers h params) :=
  payloadBound_of_fits _

theorem payloadBound.readTrigger (h : Header) (params : List Byte) : payloadBound.Statement (.readTrigger h params) :=
  payloadBound_of_fits _

theorem payloadBound.setOutputs (h : Header) (params : List Byte) : payloadBound.Statement (.setOutputs h params) :=
  payloadBound_of_fits _

theorem payloadBound.pulseOutput (h : Header) (params : List Byte) : payloadBound.Statement (.pulseOutput h params) :=
  payloadBound_of_fits _

theorem payloadBound.setOutputConfig (h : Header) (params : List Byte) : payloadBound.Statement (.setOutputConfig h params) :=
  payloadBound_of_fits _

theorem payloadBound.setPwm (h : Header) (params : List Byte) : payloadBound.Statement (.setPwm h params) :=
  payloadBound_of_fits _

theorem payloadBound.getPwm (h : Header) (params : List Byte) : payloadBound.Statement (.getPwm h params) :=
  payloadBound_of_fits _

theorem payloadBound.setInputConfig (h : Header) (params : List Byte) : payloadBound.Statement (.setInputConfig h params) :=
  payloadBound_of_fits _

theorem payloadBound.getIo (h : Header) (params : List Byte) : payloadBound.Statement (.getIo h params) :=
  payloadBound_of_fits _

theorem payloadBound.discardReports (h : Header) (params : List Byte) : payloadBound.Statement (.discardReports h params) :=
  payloadBound_of_fits _

theorem payloadBound.unknownOrder (h : Header) (payload : List Byte) : payloadBound.Statement (.unknownOrder h payload) :=
  payloadBound_of_fits _

theorem payloadBound.poll (h : Header) (ack : Option Byte) : payloadBound.Statement (.poll h ack) :=
  payloadBound_of_fits _

theorem payloadBound.ignoredFrame (station control : Byte) (payload : List Byte) : payloadBound.Statement (.ignoredFrame station control payload) :=
  payloadBound_of_fits _

theorem payloadBound.checkFailure (station control : Byte) (payload : List Byte) (checkA checkB : Byte) : payloadBound.Statement (.checkFailure station control payload checkA checkB) :=
  payloadBound_of_fits _

theorem payloadBound.escapeError (b : Byte) : payloadBound.Statement (.escapeError b) :=
  payloadBound_of_fits _

theorem payloadBound.oversizeFrame (len : Byte) : payloadBound.Statement (.oversizeFrame len) :=
  payloadBound_of_fits _

theorem payloadBound.openingByteAbandonment : payloadBound.Statement .openingByteAbandonment :=
  payloadBound_of_fits _

theorem payloadBound.gapAbandonment : payloadBound.Statement .gapAbandonment :=
  payloadBound_of_fits _

theorem payloadBound.replyStart : payloadBound.Statement .replyStart :=
  payloadBound_of_fits _

theorem payloadBound.replyEnd : payloadBound.Statement .replyEnd :=
  payloadBound_of_fits _

theorem payloadBound.replyAbandoned : payloadBound.Statement .replyAbandoned :=
  payloadBound_of_fits _

theorem payloadBound.linkLossEvent : payloadBound.Statement .linkLossEvent :=
  payloadBound_of_fits _

theorem payloadBound.powerOn (resetPinActive : Bool) : payloadBound.Statement (.powerOn resetPinActive) :=
  payloadBound_of_fits _

theorem payloadBound.resetPin : payloadBound.Statement .resetPin :=
  payloadBound_of_fits _

theorem payloadBound.resetComplete : payloadBound.Statement .resetComplete :=
  payloadBound_of_fits _

theorem payloadBound.tick : payloadBound.Statement .tick :=
  payloadBound_of_fits _

theorem payloadBound.dwellEnd (a : AxisId) : payloadBound.Statement (.dwellEnd a) :=
  payloadBound_of_fits _

theorem payloadBound.inputTimeout (a : AxisId) : payloadBound.Statement (.inputTimeout a) :=
  payloadBound_of_fits _

theorem payloadBound.pulseEnd (n : Fin 8) : payloadBound.Statement (.pulseEnd n) :=
  payloadBound_of_fits _

theorem payloadBound.filterAcceptance (i : InputId) : payloadBound.Statement (.filterAcceptance i) :=
  payloadBound_of_fits _

theorem payloadBound.rawChange (p : PinId) (high : Bool) : payloadBound.Statement (.rawChange p high) :=
  payloadBound_of_fits _

theorem payloadBound.stepIssue (a : AxisId) : payloadBound.Statement (.stepIssue a) :=
  payloadBound_of_fits _

theorem payloadBound.stepPulseStart (a : AxisId) : payloadBound.Statement (.stepPulseStart a) :=
  payloadBound_of_fits _

theorem payloadBound.stepPulseEnd (a : AxisId) : payloadBound.Statement (.stepPulseEnd a) :=
  payloadBound_of_fits _

theorem payloadBound.tailIntervalExpiry (a : AxisId) : payloadBound.Statement (.tailIntervalExpiry a) :=
  payloadBound_of_fits _

theorem payloadBound.stopWalkEnd (a : AxisId) : payloadBound.Statement (.stopWalkEnd a) :=
  payloadBound_of_fits _

theorem payloadBound.periodBoundary (c : Fin 2) : payloadBound.Statement (.periodBoundary c) :=
  payloadBound_of_fits _

theorem payloadBound.pwmDutyEnd (c : Fin 2) : payloadBound.Statement (.pwmDutyEnd c) :=
  payloadBound_of_fits _

theorem payloadBound.newFrameBegins : payloadBound.Statement .newFrameBegins :=
  payloadBound_of_fits _

end Sys2Proof.Laws
end

