-- ==== Sys2Proof/Tests/Slice0.lean ====
section
/-! SUPPORT. Small tests: the WellFormed smoke tests, words written out from the spec's encodings, the spec's worked examples,
one step each, and for every statement with hypotheses a state and operands that meet them. -/

namespace Sys2Proof.Tests

open Sys2Proof.Machine

/-! ### Helpers -/

/-- The state after a command, for tests. -/
def after (i : Instr) (s : State) : State :=
  match exec i s with
  | .next t => t
  | .fault _ => s
  | .refused _ => s

/-- A header of an order to station 1 with sequence 0. -/
def hdr : Header := { station := 1, seq := 0, spare := 0 }

/-- A header of a broadcast. -/
def all : Header := { station := 31, seq := 0, spare := 0 }

/-- The payload of the reply that is built. -/
def reply (s : State) : List Byte :=
  match s.line.transmit with
  | .built r => r.payload
  | .silent | .sending _ _ _ => []

/-- The reset state with axis 0 in this record. -/
def with0 (x : Axis) : State := State.reset.setAxis 0 x

/-- An axis that is IDLE with an empty queue. -/
def idleAxis : Axis := { Axis.reset with state := .idle }

/-- Profile 2 of the worked examples (02 section 2.6). -/
def profile2 : List Stage := [⟨500, 20⟩, ⟨1000, 20⟩, ⟨2000, 40⟩, ⟨4000, 40⟩]

/-- A MOVE of three steps at 400, no profile. -/
def move3 : Segment := { tag := 7, report := false, work := .move 3 400 none false }

/-- The plan of `move3`. -/
def plan3 : List Leg := [⟨.cruise, 400, some 3⟩]

/-- The progress record of `move3` after `n` of its steps. -/
def progress3 (n : Nat) : Progress :=
  { Progress.initial (some .positive) (some 3) plan3 none with
    plan := { legs := plan3, leg := 0, inLeg := n }, stepsTaken := n, rate := 400 }

/-- An axis RUNNING `move3`, after `n` of its steps. -/
def runningAxis (n : Nat) : Axis :=
  { idleAxis with state := .running, queue := [move3], progress := some (progress3 n), position := BitVec.ofNat 24 n }

/-- A DWELL of 5 ms. -/
def dwell5 : Segment := { tag := 8, report := true, work := .dwell 5 }

/-- An axis WAITING in a segment, with a deadline. -/
def waitingAxis (q : List Segment) (deadline : Option Uptime) : Axis :=
  { idleAxis with state := .waiting, queue := q, progress := some (Progress.initial none none [] deadline) }

/-- A JOIN of axes 0 and 1 with token 9. -/
def join9 (report : Bool) : Segment := { tag := 9, report := report, work := .join 9 3 }

/-- The record of that join with axis 1 arrived. -/
def record9 : JoinRecord := { token := 9, members := 3, arrived := 2 }

/-- A WAIT_INPUT for IN0 active with a timeout of 4 ms. -/
def waitIn0 : Segment := { tag := 11, report := false, work := .waitInput 0 true 4 }

/-- A pending acceptance that is due. -/
def dueInput (s : State) (i : InputId) (pinHigh : Bool) : State :=
  s.setInput i { s.input i with pinHigh := pinHigh, pending := some s.uptime }

/-- A reply that waits to go out. -/
def someReply (restarts : Bool) : Reply :=
  { station := 0x81, kind := .orderReply, seq := 0, payload := [1, 0], restarts := restarts }

/-- When a part takes an order with a header. -/
theorem takes_of (s : State) (h : Header) (running : s.resetHeld = none ∧ s.transmitting = false)
    (stays : s.restartWaiting = false) (address : 1 ≤ s.line.address.toNat ∧ s.line.address.toNat ≤ 30)
    (station : h.station.toNat = s.line.address.toNat) : s.Takes h :=
  ⟨⟨running.1, running.2, fun _ => stays⟩, address, station⟩

/-- The replay cache is EMPTY. -/
theorem fresh_of (s : State) (h : Header) (e : s.line.cache = none) : s.Fresh h := by
  intro x hx; rw [e] at hx; cases hx

theorem reset_takes : State.reset.Takes hdr := takes_of _ _ (by decide) (by decide) (by decide) (by decide)

theorem reset_fresh : State.reset.Fresh hdr := fresh_of _ _ rfl

theorem reset_listens : State.reset.Listens := reset_takes.listens

/-! ### WellFormed refuses what its checks are for -/

theorem test_wellFormed_order : (Instr.getTime hdr []).wellFormed = true := by decide

theorem test_wellFormed_refuses_long_payload : (Instr.peekQueue hdr (List.replicate 60 0)).wellFormed = false := by decide

theorem test_wellFormed_refuses_known_code_as_unknown : (Instr.unknownOrder hdr [0x17, 15]).wellFormed = false := by
  decide

theorem test_wellFormed_refuses_matching_check : (Instr.checkFailure 5 0xB7 [0, 0] 0xBE 0x7F).wellFormed = true ∧
    (Instr.checkFailure 4 0 [0x0B] 0x10 0x1D).wellFormed = false := by decide

theorem test_wellFormed_refuses_good_escapes : (Instr.escapeError 0xF7).wellFormed = false ∧
    (Instr.escapeError 0xF8).wellFormed = false ∧ (Instr.escapeError 0xB7).wellFormed = false ∧
    (Instr.escapeError 0xF9).wellFormed = true := by decide

theorem test_wellFormed_refuses_short_oversize : (Instr.oversizeFrame 60).wellFormed = false ∧
    (Instr.oversizeFrame 61).wellFormed = true := by decide

/-! ### Words written out from the spec's encodings -/

theorem test_no_table_word_spells_a_command : decodeTableWord 8 0x17 = none := rfl

/-- R154: the checked bytes 0x05, 0xB7, 0x02. -/
theorem test_check_bytes : checkBytes [0x05, 0xB7, 0x02] = (0xBE, 0x7F) := by decide

/-- 12 section 12.1: a POLL to station 4 acknowledging record 11, on the line. -/
theorem test_poll_wire :
    Frame.wire { station := 4, control := 0, payload := [0x0B] } = [0xB7, 0x04, 0x00, 0x01, 0x0B, 0x10, 0x1D] := by decide

theorem test_poll_bytes_are_a_poll :
    ((receiveBytes .between [0xB7, 0x04, 0x00, 0x01, 0x0B, 0x10, 0x1D]).2.map commandOfEvent) =
      [.newFrameBegins, .poll { station := 4, seq := 0, spare := 0 } (some 11)] := by decide

/-- 12 section 12.4: the MOVE of section 1.8; its rate byte 0xB8 goes out as 0xB8 0xF8. -/
theorem test_move_bytes_are_a_queue_segment :
    ((receiveBytes .between [0xB7, 0x01, 0x05, 0x0B, 0x20, 0x00, 0x01, 0x0A, 0x00, 0xE8, 0x03, 0x00, 0xB8, 0xF8, 0x0B, 0x02,
        0xEC, 0x4B]).2.getLast?.map commandOfEvent) =
      some (.queueSegment { station := 1, seq := 1, spare := 0 }
        [0x00, 0x01, 0x0A, 0x00, 0xE8, 0x03, 0x00, 0xB8, 0x0B, 0x02]) := by decide

theorem test_move_fields :
    readSegment 0 0x01 0x0A 0x00 0xE8 0x03 0x00 0xB8 0x0B 0x02 =
      some { tag := 10, report := false, work := .move 1000 3000 (some 2) false } := by decide

/-- R169: one order of each family, its code and parameters as a payload. -/
theorem test_payloads_spell_their_orders :
    commandOfFrame ⟨1, 0x01, [0x04, 1]⟩ 0x09 0x18 = .getLinkStats hdr [1] ∧
    commandOfFrame ⟨1, 0x01, [0x12, 3]⟩ 0x19 0x36 = .enable hdr [3] ∧
    commandOfFrame ⟨1, 0x01, [0x22, 0, 0]⟩ 0x27 0x7D = .peekQueue hdr [0, 0] ∧
    commandOfFrame ⟨1, 0x01, [0x32, 7]⟩ 0x3D 0x7A = .dropProfile hdr [7] ∧
    commandOfFrame ⟨1, 0x01, [0x44, 2]⟩ 0x4A 0x99 = .readTrigger hdr [2] ∧
    commandOfFrame ⟨1, 0x01, [0x54, 1]⟩ 0x59 0xB8 = .getPwm hdr [1] ∧
    commandOfFrame ⟨1, 0x01, [0x56]⟩ 0x59 0x5F = .getIo hdr [] ∧
    commandOfFrame ⟨1, 0x01, [0x60]⟩ 0x63 0x69 = .discardReports hdr [] ∧
    commandOfFrame ⟨1, 0x01, [0x70]⟩ 0x73 0x79 = .unknownOrder hdr [0x70] ∧
    commandOfFrame ⟨1, 0x02, []⟩ 0x03 0x07 = .ignoredFrame 1 2 [] ∧
    commandOfFrame ⟨1, 0x02, []⟩ 0x03 0x08 = .checkFailure 1 2 [] 3 8 := by decide

/-! ### The worked examples of the spec, one step each -/

/-- 02 section 2.6: counted plans at 3,000 under profile 2. -/
theorem test_plan_full : countedPlan (usedStages profile2 3000) 3000 1000 =
    [⟨.accel, 500, some 20⟩, ⟨.accel, 1000, some 20⟩, ⟨.accel, 2000, some 40⟩, ⟨.cruise, 3000, some 840⟩,
     ⟨.decel, 2000, some 40⟩, ⟨.decel, 1000, some 20⟩, ⟨.decel, 500, some 20⟩] := by decide

theorem test_plan_truncated_odd : countedPlan (usedStages profile2 3000) 3000 101 =
    [⟨.accel, 500, some 20⟩, ⟨.accel, 1000, some 20⟩, ⟨.accel, 2000, some 10⟩, ⟨.peak, 2000, some 1⟩,
     ⟨.decel, 2000, some 10⟩, ⟨.decel, 1000, some 20⟩, ⟨.decel, 500, some 20⟩] := by decide

theorem test_plan_truncated_at_a_stage_end : countedPlan (usedStages profile2 3000) 3000 41 =
    [⟨.accel, 500, some 20⟩, ⟨.peak, 500, some 1⟩, ⟨.decel, 500, some 20⟩] := by decide

theorem test_plan_of_one_step : countedPlan (usedStages profile2 3000) 3000 1 = [⟨.peak, 500, some 1⟩] := by decide

theorem test_plan_without_cruise : (countedPlan (usedStages profile2 3000) 3000 160).length = 6 := by decide

/-- 02 section 2.6: stop walks under profile 2. -/
theorem test_walks : (walkStages profile2 3000).map Stage.steps = [40, 20, 20] ∧
    (walkStages profile2 2000).map Stage.rate = [1000, 500] ∧ walkStages profile2 500 = [] := by decide

/-- 03 section 3.8: a MOVE of 5 at 1,000 on one stage (500, 2); the state right after its activation. -/
theorem test_short_move_starts :
    let t := after (.queueSegment hdr [0, 1, 1, 0, 5, 0, 0, 0xE8, 0x03, 5]) ((with0 idleAxis).setProfile 5 [⟨500, 2⟩])
    (t.axis 0).position = 1 ∧ (t.axis 0).phase = .accel ∧ (t.axis 0).currentRate = 500 ∧
      (t.axis 0).stepsRemaining = some 4 ∧ reply t = [0x20, 0, 1, 47] := by decide

/-- 03 section 3.8: MOVE 30 at 12,000 exceeds max_rate. -/
theorem test_rate_range_holds :
    let t := after (.queueSegment hdr [0, 1, 30, 0, 10, 0, 0, 0xE0, 0x2E, 0xFF]) (with0 idleAxis)
    (t.axis 0).state = .held ∧ (t.axis 0).heldCause = .stopped .rateRange ∧ (t.axis 0).queue = [] ∧
      t.reports.records.length = 2 ∧ reply t = [0x20, 0, 1, 47] := by decide

/-- 03 section 3.8: GOTO 32 to +8,388,607 from −8,388,606 is out of range. -/
theorem test_goto_across_the_wrap_is_out_of_range :
    activationCheck 0 { tag := 32, report := false, work := .goto 8388607 400 none }
      (with0 { idleAxis with position := BitVec.ofInt 24 (-8388606) }) = .ends .positionRange := by decide

/-- R56: the position wraps. -/
theorem test_position_wraps : stepFrom 8388607 .positive = BitVec.ofInt 24 (-8388608) := by decide

/-- 08 section 8.5, rows 1, 3, 4 and 5. -/
theorem test_pwm_rows : (PwmChannel.reset.set true ⟨1000, 250⟩).pinActive = true ∧
    ((PwmChannel.reset.set true ⟨1000, 250⟩).set true ⟨2000, 500⟩).pending = some ⟨2000, 500⟩ ∧
    (((PwmChannel.reset.set true ⟨1000, 250⟩).set true ⟨2000, 500⟩).writeDuty 2500).pending = some ⟨2000, 2500⟩ ∧
    (((PwmChannel.reset.set true ⟨1000, 250⟩).set true ⟨2000, 500⟩).writeDuty 2500).boundary.active = ⟨2000, 2000⟩ := by
  decide

/-- 10 section 10.7, rows 2 and 7: a full queue drops and counts; the next admitted report carries the count. -/
theorem test_full_queue_counts :
    let q : ReportQueue := { records := List.replicate 32 ⟨10, 0, 0, .estopChanged true⟩, nextNumber := 42, dropped := 1
                             attention := true }
    (q.enter 5 (.inputChanged 0 true)).dropped = 2 ∧ (q.enter 5 (.inputChanged 0 true)).nextNumber = 42 ∧
      (({ q with records := q.records.tail }).enter 5 (.estopChanged true)).records.getLast?.map Report.lostBefore =
        some 1 := by decide

/-- 10 section 10.7, row 5: a POLL acknowledges the head, and carries the next record. -/
theorem test_poll_acknowledges :
    (after (.poll hdr (some 0)) State.reset).reports.records = [] ∧
      reply (after (.poll hdr none) State.reset) = [0, 0, 0, 0, 48, 1, 0, 1, 0, 0, 0, 0, 0, 0] := by decide

/-- 09 section 9.5, rows 1, 2 and 4: a bounce is discarded, and a level held for the filter time ends the wait. -/
theorem test_bounce_is_discarded :
    let s := with0 (waitingAxis [waitIn0] none)
    ((after (.rawChange (.input (.general 0)) true) s).input (.general 0)).pending = some 2 ∧
      ((after (.rawChange (.input (.general 0)) false) (after (.rawChange (.input (.general 0)) true) s)).input
        (.general 0)).pending = none := by decide

theorem test_accepted_level_ends_the_wait :
    let t := after (.filterAcceptance (.general 0)) (dueInput (with0 (waitingAxis [waitIn0] none)) (.general 0) true)
    (t.axis 0).state = .idle ∧ ((t.axis 0).lastEnd.map EndRecord.cause) = some .complete := by decide

/-- R87: the home event zeroes the counter with ZERO_AT_HOME, and with ABRUPT_AT_HOME ends the HOME at once. -/
theorem test_home_zeroes_the_counter :
    let g : Segment := { tag := 40, report := false, work := .home 20000 400 none true true true }
    let p : Progress := { Progress.initial (some .negative) none [⟨.cruise, 400, none⟩] none with
                          plan := { legs := [⟨.cruise, 400, none⟩], leg := 0, inLeg := 3 }, stepsTaken := 3, rate := 400 }
    let t := after (.filterAcceptance (.axis 0 .home)) (dueInput
      (with0 { idleAxis with state := .running, queue := [g], progress := some p, position := 1200 }) (.axis 0 .home) false)
    (t.axis 0).position = 0 ∧ (t.axis 0).lastEnd.map EndRecord.cause = some .homed ∧ (t.axis 0).state = .idle := by decide

/-- R78: LIMP becoming active stops an axis that moves towards it, abruptly. -/
theorem test_limit_stops :
    let t := after (.filterAcceptance (.axis 0 .limp)) (dueInput (with0 (runningAxis 1)) (.axis 0 .limp) false)
    (t.axis 0).heldCause = .stopped .limitPos ∧ (t.axis 0).state = .held ∧ (t.axis 0).position = 1 := by decide

/-- 07 section 7.6, event 2: slots 3 and 7 fire at the step; slot 8, armed by it, does not fire with them. -/
theorem test_triggers_fire :
    let f (q : Qualifier) (m : TriggerMode) (r : Bool) (a : Action) : TriggerFields := ⟨0, 2, q, m, r, a⟩
    let s := (((with0 (runningAxis 1)).setTrigger 3 (.written (f .positive .oneshot true (.outSet 2)) true)).setTrigger 7
      (.written (f .positive .oneshot false (.armSlot 8)) true)).setTrigger 8
      (.written (f .either .rearm true (.outClear 2)) false)
    let t := after (.stepIssue 0) s
    (t.trigger 3).state = .spent ∧ (t.trigger 3).fireCount = 1 ∧ (t.trigger 7).state = .spent ∧
      (t.trigger 8).state = .armed ∧ (t.trigger 8).fireCount = 0 ∧ (t.output 2).level = true ∧
      t.reports.records.length = 2 := by decide

/-- 06: the last arrival releases both members. -/
theorem test_join_releases :
    let s := { ((with0 { idleAxis with state := .held, heldCause := .enabled, queue := [join9 true] }).setAxis 1
      (waitingAxis [join9 false] none)) with joins := [record9] }
    let t := after (.resume hdr [1]) s
    (t.axis 0).state = .idle ∧ (t.axis 1).state = .idle ∧ t.joins = [] ∧ t.reports.records.length = 2 := by decide

/-- R99: another member mask under an open token is a mismatch. -/
theorem test_join_mismatch :
    let s := { ((with0 { idleAxis with state := .held, heldCause := .enabled
                                       queue := [{ join9 true with work := .join 9 7 }] }).setAxis 1
      (waitingAxis [join9 false] none)) with joins := [record9] }
    let t := after (.resume hdr [1]) s
    (t.axis 0).heldCause = .stopped .joinMismatch ∧ (t.axis 1).heldCause = .stopped .joinBroken ∧ t.joins = [] := by decide

/-- 04 section 4.13, event 6: a STOP RAMPED HOLD replaces the recorded cause HOMED; event 8: an abrupt LIMIT_NEG overtakes. -/
theorem test_recorded_causes : rampedCause (some .homed) .stoppedByOrder = .stoppedByOrder ∧
    rampedCause (some .linkLost) .stoppedByOrder = .linkLost ∧ overtakenCause (some .stoppedByOrder) .limitNeg = .limitNeg ∧
    overtakenCause (some .linkLost) .homed = .linkLost := by decide

/-- R83 and R60 at an ESTOP, with the receivers in one order. -/
theorem test_estop_disables :
    let t := estopInOrder [.queue, .engine 0] (with0 (runningAxis 1))
    (t.axis 0).state = .disabled ∧ (t.axis 0).heldCause = .stopped .estop ∧ t.reports.records.length = 3 := by decide

/-- R159: a repeated order is answered from the cache; R160: a broadcast SET_OUTPUTS acts without a reply. -/
theorem test_repeated_order :
    let t := after (.setPosition hdr [0, 5, 0, 0]) State.reset
    (t.axis 0).position = 5 ∧ ((after (.setPosition hdr [0, 9, 0, 0]) t).axis 0).position = 5 := by decide

theorem test_broadcast_set_outputs :
    let t := after (.setOutputs all [3, 1]) State.reset
    (t.output 0).level = true ∧ (t.output 1).level = false ∧ t.line.transmit = .silent := by decide

/-- R167: the control byte of a reply with REPORTS_PENDING and LINK_WAS_LOST. -/
theorem test_reply_control : ((someReply false).frame true true).control = 0x63 := by decide

/-- R166: a RESTART resets after its reply. -/
theorem test_restart_resets :
    let t := after .replyEnd (after .replyStart (after (.restart hdr []) (with0 idleAxis)))
    (t.axis 0).state = .disabled ∧ t.reports.records.map Report.body = [.restarted .order] := by decide

/-- R63: a turn while a pulse waits reaches DIR with that pulse's end. -/
theorem test_dir_waits_for_the_pulse :
    let x := ({ idleAxis with pulsesWaiting := 1 }).turn .negative
    x.shownDir = .positive ∧ x.pulseStart.pulseEnd.shownDir = .negative := by decide

/-! ### For every statement with hypotheses, a state and operands that meet them -/

/-- A reply under transmission after which the part restarts, or not. -/
def sendingState (restarts : Bool) : State := State.reset.setTransmit (.sending (someReply restarts) false false)

/-- A reply built and not begun. -/
def builtState (restarts : Bool) : State := State.reset.setTransmit (.built (someReply restarts))

/-- A frame in progress. -/
def inFrameState : State := State.reset.setReceive .inFrame

/-- ESTOP accepted active. -/
def estopState (x : Axis) : State :=
  (with0 x).setInput .estop { pinHigh := false, activeHigh := false, accepted := true, pending := none }

/-- ALARM of axis 0 accepted active. -/
def alarmState (x : Axis) : State :=
  (with0 x).setInput (.axis 0 .alarm) { pinHigh := false, activeHigh := false, accepted := true, pending := none }

/-- A STOPPING axis with the last step of its walk issued. -/
def stoppingAxis (c : Cause) (flush : Bool) : Axis :=
  { runningAxis 1 with
    state := .stopping
    progress := some { progress3 1 with
      walk := some { legs := [⟨.stopWalk, 400, some 1⟩], leg := 0, inLeg := 1 }, walkProfile := some 2
      recordedCause := some c, flushPending := flush } }

theorem takes0 (x : Axis) : (with0 x).Takes hdr :=
  takes_of _ _ ⟨rfl, rfl⟩ rfl (show 1 ≤ State.reset.line.address.toNat ∧ State.reset.line.address.toNat ≤ 30 from by decide) rfl

theorem fresh0 (x : Axis) : (with0 x).Fresh hdr := fresh_of _ _ rfl

theorem witness_StepRunsTheFrontCommand :
    ({ State.reset with pending := [.tick, .resetPin] }).pending = .tick :: [.resetPin] ∧ State.reset.pending = [] :=
  ⟨rfl, rfl⟩

theorem witness_SettingsChangeByTheirOwnCommands :
    exec (.stepIssue 0) (with0 (runningAxis 1)) = .next (after (.stepIssue 0) (with0 (runningAxis 1))) ∧
      (with0 (runningAxis 1)).restartWaiting = false ∧ (∀ b, Instr.stepIssue 0 ≠ .powerOn b) ∧
      Instr.stepIssue 0 ≠ .resetPin ∧ (∀ h p, Instr.stepIssue 0 ≠ .setAxis h p) :=
  ⟨rfl, rfl, by simp, by simp, by simp⟩

theorem witness_ResetPinHoldsThePartInReset : (with0 (runningAxis 1)).resetHeld = none := rfl

theorem witness_EveryResetLeavesTheResetState :
    ((takeReset .pin State.reset).resetHeld = some .pin ∧ (takeReset .pin State.reset).QuietInReset) ∧
    ((sendingState true).resetHeld = none ∧ (sendingState true).line.transmit = .sending (someReply true) false false ∧
      (someReply true).restarts = true) ∧
    ((builtState true).resetHeld = none ∧ (builtState true).line.transmit = .built (someReply true) ∧
      (builtState true).line.receive = .between) := by decide

theorem witness_NothingHappensInReset :
    (takeReset .pin State.reset).resetHeld ≠ none ∧ (∀ b, Instr.tick ≠ .powerOn b) ∧ Instr.tick ≠ .resetComplete ∧
      ∀ p b, Instr.tick ≠ .rawChange p b :=
  ⟨by decide, by simp, by simp, by simp⟩

theorem witness_ResetStateIsSound :
    exec (.powerOn false) (with0 (runningAxis 1)) = .next (after (.powerOn false) (with0 (runningAxis 1))) := rfl

theorem witness_FramesAreReadBackFromTheirBytes :
    (Frame.mk 1 1 (List.replicate 60 0xB7)).payload.length ≤ 60 ∧ (Frame.mk 1 1 []).payload.length ≤ 60 := by decide

theorem witness_CommandsAreReadBackFromTheirFrames :
    ((Instr.setPosition hdr [0, 0xB7, 0, 0]).wellFormed = true ∧
      (Instr.setPosition hdr [0, 0xB7, 0, 0]).frame? = some ⟨1, 1, [0x14, 0, 0xB7, 0, 0]⟩) ∧
    ((Instr.checkFailure 1 1 [2] 0 0).wellFormed = true ∧ (Instr.checkFailure 1 1 [2] 0 0).frame? = some ⟨1, 1, [2]⟩) := by
  decide

theorem witness_IgnoredFramesHaveNoEffectButSupervision :
    (ignores State.reset.line 5 1 [2] = true ∧ State.reset.restartWaiting = false) ∧
    (State.reset.Listens ∧ (5 : Byte).toNat ≠ 31 ∧ ¬ (State.reset.line.addressed ∧ (5 : Byte).toNat = 1)) ∧
    (ignores State.reset.line 31 0 [] = true ∧ (31 : Byte).toNat = 31) ∧
    (ignores State.reset.line 1 2 [] = true ∧ State.reset.line.addressed = true) ∧
    ((Instr.getTime { hdr with station := 5 } []).wellFormed = true ∧
      (Instr.getTime { hdr with station := 5 } []).frame? = some ⟨5, 1, [6]⟩) :=
  ⟨by decide, ⟨reset_listens, by decide, by decide⟩, by decide, by decide, by decide⟩

theorem witness_BroadcastsAreCarriedOutWithoutReply :
    all.station.toNat = 31 ∧ State.reset.Listens ∧ broadcastOrder .getTime = false ∧ broadcastOrder .stop = true ∧
      (([] : List Byte).head?.bind orderOfByte).isNone = true ∧ State.reset.Takes hdr ∧ State.reset.Fresh hdr :=
  ⟨by decide, reset_listens, by decide, by decide, by decide, reset_takes, reset_fresh⟩

theorem witness_RepeatedOrdersAreAnsweredFromTheCache :
    (after (.getTime hdr []) State.reset).Takes hdr ∧
      (after (.getTime hdr []) State.reset).line.cache = some (hdr.seq, [6, 0, 0, 0, 0, 0]) ∧
      ((([0x70] : List Byte).head?.bind orderOfByte).isNone = true) :=
  ⟨takes_of _ _ (by decide) (by decide) (by decide) (by decide), by decide, by decide⟩

theorem witness_RefusedOrdersChangeNothing : State.reset.Takes hdr ∧ State.reset.Fresh hdr := ⟨reset_takes, reset_fresh⟩

theorem witness_MalformedOrdersAreRefused :
    State.reset.Takes hdr ∧ State.reset.Fresh hdr ∧ tabledLength .enable [] ≠ some ([] : List Byte).length ∧
      (([] : List Byte).head?.bind orderOfByte).isNone = true ∧
      tabledLength .getAxis [4] = some ([4] : List Byte).length ∧ ¬ Spells .getAxis [4] ∧
      tabledLength .getAxis [3] = some 1 ∧ Spells .getAxis [3] :=
  ⟨reset_takes, reset_fresh, by decide, by decide, by decide, by simp only [Spells]; decide, by decide,
    ⟨3, by decide⟩⟩

theorem witness_RepliesFitAFrame : State.reset.ProfilesSound ∧ State.reset.Takes hdr ∧ State.reset.Fresh hdr :=
  ⟨by decide, reset_takes, reset_fresh⟩

theorem witness_PollAcknowledgesAndCarriesTheHead : State.reset.Takes hdr := reset_takes

theorem witness_AbandonedFramesAreCounted :
    (inFrameState.resetHeld = none ∧ inFrameState.transmitting = false ∧ inFrameState.line.receive = .inFrame ∧
      inFrameState.line.stats.openings ≤ 65535 ∧ inFrameState.line.stats.gaps ≤ 65535 ∧
      inFrameState.line.stats.escapeErrors ≤ 65535 ∧ inFrameState.line.stats.oversize ≤ 65535 ∧
      (0xF9 : Byte) ≠ 0xF7 ∧ (0xF9 : Byte) ≠ 0xF8 ∧ (0xF9 : Byte) ≠ 0xB7 ∧ 60 < (61 : Byte).toNat) ∧
    (State.reset.Listens ∧ State.reset.line.stats.checkFailures ≤ 65535 ∧
      checkBytes (Frame.checked { station := 1, control := 1, payload := [2] }) ≠ (0, 0)) :=
  ⟨by decide, reset_listens, by decide, by decide⟩

theorem witness_RepliesStartEndAndAreAbandoned :
    ((builtState false).resetHeld = none ∧ (builtState false).line.transmit = .built (someReply false) ∧
      (someReply false).restarts = false ∧ (builtState false).line.receive = .between) ∧
    ((sendingState false).resetHeld = none ∧ (sendingState false).line.transmit = .sending (someReply false) false false) ∧
    (State.reset.line.transmit = .silent ∧ State.reset.line.receive = .between) := by decide

theorem witness_LineQueriesAnswer : State.reset.Takes hdr ∧ State.reset.Fresh hdr := ⟨reset_takes, reset_fresh⟩

theorem witness_SetLinkReplacesTimeoutAndAttention :
    State.reset.Takes hdr ∧ State.reset.Fresh hdr ∧ (20 : Nat) < 65536 ∧ (60001 : Nat) < 65536 :=
  ⟨reset_takes, reset_fresh, by decide, by decide⟩

theorem witness_RestartIsAnsweredFirst : State.reset.Takes hdr ∧ State.reset.Fresh hdr := ⟨reset_takes, reset_fresh⟩

theorem witness_SetAxisAndGetAxisKeepTheConfiguration :
    State.reset.Takes hdr ∧ State.reset.Fresh hdr ∧ AxisConfig.reset.fitsBytes = true ∧
      AxisConfig.reset.inRange = true ∧ (State.reset.axis 0).config.fitsBytes = true :=
  ⟨reset_takes, reset_fresh, by decide, by decide, by decide⟩

theorem witness_EnableAndDisableActOnNamedAxes : State.reset.Takes hdr ∧ State.reset.Fresh hdr :=
  ⟨reset_takes, reset_fresh⟩

theorem witness_SetPositionLoadsTheCounter : State.reset.Takes hdr ∧ State.reset.Fresh hdr := ⟨reset_takes, reset_fresh⟩

theorem witness_GetAxisStateShowsTheAxis :
    (with0 (runningAxis 1)).Takes hdr ∧ (with0 (runningAxis 1)).Fresh hdr ∧
      ((with0 (runningAxis 1)).axis 0).fits = true ∧ move3.work.counted = true ∧
      ((with0 (runningAxis 1)).axis 1).fits = true ∧ ((with0 (runningAxis 1)).axis 1).active = none :=
  ⟨takes0 _, fresh0 _, by decide, by decide, by decide, by decide⟩

/-- The bytes of an axis in motion and of one at rest: steps taken 1 and remaining 2, presence bits 0 and 1; and no field
present (R62, R169). -/
theorem test_axisState_presence :
    ((axisStateBytes (runningAxis 1)).drop 8).take 9 = [3, 7, 1, 1, 0, 0, 2, 0, 0] ∧
      ((axisStateBytes idleAxis).drop 8).take 9 = [0, 0, 0, 0, 0, 0, 0, 0, 0] := by decide

/-- A HELD axis. -/
def heldAxis (q : List Segment) : Axis := { idleAxis with state := .held, heldCause := .enabled, queue := q }

theorem witness_ResumeTreatsHeldAxes :
    ((estopState idleAxis).Takes hdr ∧ (estopState idleAxis).Fresh hdr ∧ (estopState idleAxis).estopActive = true) ∧
    ((alarmState (heldAxis [])).Takes hdr ∧ (alarmState (heldAxis [])).estopActive = false ∧
      ∃ a : AxisId, (1 : AxisMask).getLsbD a.val ∧ ((alarmState (heldAxis [])).axis a).state = .held ∧
        (alarmState (heldAxis [])).alarmActive a) ∧
    ((with0 (heldAxis [])).estopActive = false ∧ ∀ a : AxisId, (1 : AxisMask).getLsbD a.val →
      ((with0 (heldAxis [])).axis a).state = .held →
        (with0 (heldAxis [])).alarmActive a = false ∧ ((with0 (heldAxis [])).axis a).queue = []) ∧
    ((with0 (heldAxis [dwell5])).Takes hdr ∧ (with0 (heldAxis [dwell5])).estopActive = false ∧
      (with0 (heldAxis [dwell5])).alarmActive 0 = false ∧ ((with0 (heldAxis [dwell5])).axis 0).state = .held ∧
      ((with0 (heldAxis [dwell5])).axis 0).queue = dwell5 :: [] ∧ dwell5.work = .dwell 5) :=
  ⟨⟨takes_of _ _ (by decide) (by decide) (by decide) (by decide), fresh_of _ _ rfl, by decide⟩,
    ⟨takes_of _ _ (by decide) (by decide) (by decide) (by decide), by decide, by decide⟩, by decide,
    ⟨takes0 _, by decide⟩⟩

theorem witness_StopOfRestingAxesOnlyFlushes :
    (with0 (heldAxis [dwell5])).Takes hdr ∧ (with0 (heldAxis [dwell5])).Fresh hdr ∧
      (∀ a : AxisId, (15 : AxisMask).getLsbD a.val → ((with0 (heldAxis [dwell5])).axis a).busy = false) ∧
      ∀ a : AxisId, ((with0 (heldAxis [dwell5])).axis a).state = .idle → ((with0 (heldAxis [dwell5])).axis a).queue = [] :=
  ⟨takes0 _, fresh0 _, by decide, by decide⟩

theorem witness_StopEndsTheActiveSegment :
    ((with0 (runningAxis 1)).Takes hdr ∧ (with0 (runningAxis 1)).Fresh hdr ∧
      ((with0 (runningAxis 1)).axis 0).queue = move3 :: [] ∧
      ((with0 (runningAxis 1)).axis 0).progress = some (progress3 1) ∧ (progress3 1).flushPending = false ∧
      ((with0 (runningAxis 1)).axis 0).state = .running ∧ ∀ r ∈ (with0 (runningAxis 1)).joins, r.here 0 = false) ∧
    (((with0 (waitingAxis [dwell5] (some 5))).axis 0).queue = dwell5 :: [] ∧
      ((with0 (waitingAxis [dwell5] (some 5))).axis 0).state = .waiting) :=
  ⟨⟨takes0 _, fresh0 _, by decide⟩, by decide⟩

/-- An axis RUNNING a MOVE at 3,000 under profile 2, at its cruise, with the profile defined. -/
def cruising : State :=
  let legs := countedPlan (usedStages profile2 3000) 3000 1000
  (with0 { idleAxis with
    state := .running
    queue := [{ tag := 10, report := false, work := .move 1000 3000 (some 2) false }]
    position := 300
    progress := some { Progress.initial (some .positive) (some 1000) legs none with
      plan := { legs := legs, leg := 3, inLeg := 220 }, stepsTaken := 300, rate := 3000 } }).setProfile 2 profile2

theorem witness_RampedStopBeginsTheWalk :
    cruising.Takes hdr ∧ cruising.Fresh hdr ∧ (cruising.axis 0).state = .running ∧
      (cruising.axis 0).queue = ⟨10, false, .move 1000 3000 (some 2) false⟩ :: [] ∧
      (∃ p, (cruising.axis 0).progress = some p ∧ p.flushPending = false ∧ p.count = some 1000 ∧
        (takeSteps (1000 - p.stepsTaken) ((cruising.profile 2).filter fun x => decide (x.rate < p.rate)).reverse).map
          (fun x => Leg.mk .stopWalk x.rate (some x.steps)) =
          ⟨.stopWalk, 2000, some 40⟩ :: [⟨.stopWalk, 1000, some 20⟩, ⟨.stopWalk, 500, some 20⟩]) :=
  ⟨takes_of _ _ (by decide) (by decide) (by decide) (by decide), fresh_of _ _ rfl, by decide, by decide,
    ⟨_, rfl, by decide, by decide, by decide⟩⟩

theorem witness_QueueSegmentAppendsAndWaits :
    (State.reset.Takes hdr ∧ State.reset.Fresh hdr ∧ move3.work.fitsBytes = true ∧
      (State.reset.axis 0).state ≠ .idle) ∧
    ((estopState idleAxis).Takes hdr ∧ (estopState idleAxis).Fresh hdr ∧ move3.work.inRange 0 = true ∧
      (∀ k, move3.work.profile = some k → (estopState idleAxis).profile k ≠ []) ∧ (estopState idleAxis).queued < 48 ∧
      ((estopState idleAxis).axis 0).state = .idle ∧ ((estopState idleAxis).axis 0).queue = [] ∧
      (estopState idleAxis).estopActive = true) ∧
    (alarmState idleAxis).alarmActive 0 = true :=
  ⟨⟨reset_takes, reset_fresh, by decide, by decide⟩,
    ⟨takes_of _ _ (by decide) (by decide) (by decide) (by decide), fresh_of _ _ rfl, by decide, by decide, by decide,
      by decide, by decide, by decide⟩, by decide⟩

theorem witness_QueuedMoveStartsAtOnce :
    (with0 idleAxis).Takes hdr ∧ (with0 idleAxis).Fresh hdr ∧ (with0 idleAxis).ProfilesSound ∧ countInRange 3 = true ∧
      rateInRange 400 = true ∧ (with0 idleAxis).queued < 48 ∧ ((with0 idleAxis).axis 0).state = .idle ∧
      ((with0 idleAxis).axis 0).queue = [] ∧ (with0 idleAxis).estopActive = false ∧
      (with0 idleAxis).alarmActive 0 = false ∧ (with0 idleAxis).accepted (.axis 0 .slow) = false ∧
      (with0 idleAxis).accepted (.axis 0 .limp) = false ∧ 400 ≤ ((with0 idleAxis).axis 0).config.maxRate ∧
      400 ≤ ((with0 idleAxis).axis 0).config.pullInRate ∧
      (∀ i : Fin 24, ((with0 idleAxis).trigger i).fields = none) :=
  ⟨takes0 _, fresh0 _, by decide, by decide, by decide, by decide, by decide, by decide, by decide, by decide, by decide,
    by decide, by decide, by decide, by decide⟩

theorem witness_FlushQueueEmptiesAndPeekQueueLists : (with0 (heldAxis [dwell5])).Takes hdr ∧
    (with0 (heldAxis [dwell5])).Fresh hdr := ⟨takes0 _, fresh0 _⟩

theorem witness_ProfileOrdersActOnTheLibrary :
    State.reset.Takes hdr ∧ State.reset.Fresh hdr ∧ profile2.length ≤ 19 ∧
      ∀ x ∈ profile2, x.rate < 65536 ∧ x.steps < 256 :=
  ⟨reset_takes, reset_fresh, by decide, by decide⟩

theorem witness_SetTriggerWritesAndReadTriggerShowsTheSlot :
    State.reset.Takes hdr ∧ State.reset.Fresh hdr ∧ (Action.outPulse 3 0).fitsBytes = true ∧
      (Action.outPulse 3 50).fitsBytes = true ∧ (Action.outPulse 3 50).inRange = true :=
  ⟨reset_takes, reset_fresh, by decide, by decide, by decide⟩

theorem witness_TriggerMasksActOnNamedSlots : State.reset.Takes hdr ∧ State.reset.Fresh hdr := ⟨reset_takes, reset_fresh⟩

theorem witness_SetOutputsAndPulseOutputWriteTheLevels :
    State.reset.Takes hdr ∧ State.reset.Fresh hdr ∧ (1 : Byte) &&& ~~~(3 : Byte) = 0 ∧ (65535 : Nat) < 65536 :=
  ⟨reset_takes, reset_fresh, by decide, by decide⟩

theorem witness_SetOutputConfigReplacesTheConfiguration : State.reset.Takes hdr ∧ State.reset.Fresh hdr :=
  ⟨reset_takes, reset_fresh⟩

theorem witness_SetPwmWritesAndGetPwmShowsTheChannel :
    State.reset.Takes hdr ∧ State.reset.Fresh hdr ∧ (1000 : Nat) < 65536 ∧ (250 : Nat) < 65536 :=
  ⟨reset_takes, reset_fresh, by decide, by decide⟩

/-- An input configuration with these filter times. -/
def inputConfig (axisFilter generalFilter : Nat) : InputConfig :=
  { axisHigh := Vector.replicate 4 0x1F, generalHigh := 0, axisFilter := Vector.replicate 4 axisFilter
    generalFilter := Vector.replicate 4 generalFilter, reportOnChange := 15 }

theorem witness_SetInputConfigFiltersAfresh :
    State.reset.Takes hdr ∧ State.reset.Fresh hdr ∧ State.reset.InputsSound ∧ (inputConfig 0 15).FiltersFit ∧
      (inputConfig 1 15).FiltersFit ∧
      (∀ a : Fin 4, 1 ≤ (inputConfig 1 15).axisFilter[a] ∧ 1 ≤ (inputConfig 1 15).generalFilter[a]) ∧
      (InputId.axis 0 .home) ∈ configurableInputs ∧ State.reset.filterTime (.axis 0 .home) ≠ 0 :=
  ⟨reset_takes, reset_fresh, by decide, by decide, by decide, by decide, by decide, by decide⟩

theorem witness_GetIoShowsTheLevels : State.reset.Takes hdr ∧ State.reset.Fresh hdr := ⟨reset_takes, reset_fresh⟩

theorem witness_DiscardReportsEmptiesTheQueue : State.reset.Takes hdr ∧ State.reset.Fresh hdr :=
  ⟨reset_takes, reset_fresh⟩

/-- A channel that runs. -/
def channelState : State := State.reset.setChannel 0 (PwmChannel.reset.set true ⟨1000, 250⟩)

theorem witness_TickAndOutputTimersAct :
    State.reset.resetHeld = none ∧ channelState.resetHeld = none ∧ (channelState.channel 0).enabled = true ∧
      (channelState.channel 0).active.duty < (channelState.channel 0).active.period := by decide

theorem witness_DwellEndsAtItsDeadline :
    let s := with0 (waitingAxis [dwell5, { dwell5 with report := false }] (some 0))
    let last := with0 (waitingAxis [dwell5] (some 0))
    let early := with0 (waitingAxis [dwell5] (some 5))
    (s.resetHeld = none ∧ (s.axis 0).state = .waiting ∧ (s.axis 0).queue = dwell5 :: [{ dwell5 with report := false }] ∧
      (s.axis 0).progress = some (Progress.initial none none [] (some 0)) ∧ dwell5.work = .dwell 5 ∧
      (Progress.initial none none [] (some 0)).flushPending = false ∧ (∀ r ∈ s.joins, r.here 0 = false) ∧
      (Progress.initial none none [] (some 0)).deadline = some s.uptime ∧ s.estopActive = false ∧
      s.alarmActive 0 = false) ∧
    (last.axis 0).queue = dwell5 :: [] ∧ (Progress.initial none none [] (some 5)).deadline ≠ some early.uptime := by decide

/-- Axis 0 WAITS for IN0 with a deadline at hand; axis 1 waits for it at a JOIN. -/
def timeoutState : State :=
  { (with0 (waitingAxis [waitIn0] (some 0))).setAxis 1 (waitingAxis [join9 false] none) with joins := [record9] }

theorem witness_InputTimeoutHoldsAndBreaksMeetings :
    (timeoutState.resetHeld = none ∧ timeoutState.AxesFit ∧ timeoutState.JoinsSound ∧
      (timeoutState.axis 0).state = .waiting ∧ (timeoutState.axis 0).queue = waitIn0 :: [] ∧
      (timeoutState.axis 0).progress = some (Progress.initial none none [] (some 0)) ∧ waitIn0.work = .waitInput 0 true 4 ∧
      (Progress.initial none none [] (some 0)).deadline = some timeoutState.uptime ∧
      record9 ∈ timeoutState.joins ∧ record9.member 0 = true ∧ record9.here 1 = true) ∧
    (let alone := with0 (waitingAxis [waitIn0] (some 0))
     alone.AxesFit ∧ alone.JoinsSound ∧ ∀ r ∈ alone.joins, r.member 0 = false) := by decide

/-- The general inputs have no filter, and IN1 reads active from a pin that is low. -/
def unfiltered : State :=
  let s := State.reset.setInput (.general 1) { pinHigh := false, activeHigh := true, accepted := true, pending := none }
  { s with inputs := { s.inputs with generalFilter := Vector.replicate 4 0 } }

theorem witness_PinChangesWaitInTheFilter :
    (State.reset.input (.general 0)).pinHigh = false ∧ (State.reset.input (.general 0)).pinHigh ≠ true ∧
      State.reset.resetHeld = none ∧ 1 ≤ State.reset.filterTime (.general 0) ∧
    (unfiltered.resetHeld = none ∧ (unfiltered.input (.general 0)).pinHigh ≠ true ∧
      unfiltered.filterTime (.general 0) = 0 ∧ (unfiltered.input (.general 0)).accepted = false) ∧
    ((unfiltered.input (.general 1)).pinHigh ≠ true ∧ (unfiltered.input (.general 1)).accepted = true) := by decide

theorem witness_AcceptedLevelsAreHandedOn :
    State.reset.resetHeld = none ∧ (State.reset.input (.general 0)).pending ≠ some State.reset.uptime ∧
    (let s := dueInput State.reset (.axis 0 .limp) true
     (s.input (.axis 0 .limp)).pending = some s.uptime ∧ (s.input (.axis 0 .limp)).raw = false) ∧
    (let s := dueInput (with0 idleAxis) (.axis 0 .slow) false
     (s.input (.axis 0 .slow)).pending = some s.uptime ∧ (s.axis 0).busy = false) ∧
    (let s := dueInput (with0 idleAxis) (.axis 0 .alarm) false
     (s.input (.axis 0 .alarm)).pending = some s.uptime ∧ (s.input (.axis 0 .alarm)).raw = true ∧
      (s.axis 0).state = .idle) ∧
    (let s := dueInput (with0 idleAxis) (.general 0) true
     (s.input (.general 0)).pending = some s.uptime ∧
      ∀ a : AxisId, (s.axis a).waitsFor 0 (s.input (.general 0)).raw = false) ∧
    (let s := dueInput (estopState idleAxis) .estop true
     (s.input .estop).pending = some s.uptime ∧ (s.input .estop).raw = false) := by decide

/-- An input of axis 0 that is due to be accepted active; its inputs are active-low. -/
def dueAt (x : Axis) (l : AxisLine) : State := dueInput (with0 x) (.axis 0 l) false

/-- What the clauses about a busy axis ask of every state. -/
abbrev BusyDue (s : State) (l : AxisLine) : Prop :=
  s.resetHeld = none ∧ s.AxesFit ∧ s.JoinsSound ∧ (s.input (.axis 0 l)).pending = some s.uptime ∧
    (s.input (.axis 0 l)).raw = true ∧ (s.axis 0).busy = true

/-- A HOME with a search limit of 5 and this ABRUPT_AT_HOME flag. -/
def home5 (abrupt : Bool) : Segment := { tag := 12, report := true, work := .home 5 400 none false true abrupt }

/-- An axis in a segment without a count, after its first step. -/
def openAxis (g : Segment) : Axis :=
  let legs : List Leg := [⟨.cruise, 400, none⟩]
  { idleAxis with
    state := .running, queue := [g]
    progress := some { Progress.initial (some .positive) none legs none with
      plan := { legs := legs, leg := 0, inLeg := 1 }, stepsTaken := 1, rate := 400 } }

/-- The same axis on a stop walk. -/
def openStopping (g : Segment) (detected : Bool) : Axis :=
  { openAxis g with
    state := .stopping
    progress := (openAxis g).progress.map fun p => { p with
      walk := some (Track.start [⟨.stopWalk, 200, some 3⟩]), walkProfile := some 0, recordedCause := some .linkLost
      homeDetected := detected } }

/-- A RUN that seeks SLOW. -/
def seek : Segment := { tag := 13, report := false, work := .run 400 none false true }

/-- `move3` under way, on an axis with this slow threshold; its rate is 400. -/
def slowAxis (threshold : Nat) : Axis :=
  { runningAxis 1 with config := { AxisConfig.reset with slowThreshold := threshold } }

theorem witness_AcceptedLevels_limits_and_alarm :
    BusyDue (dueAt (runningAxis 1) .limp) .limp ∧ BusyDue (dueAt (runningAxis 3) .limn) .limn ∧
      (progress3 1).direction = some .positive ∧
      (BusyDue (dueInput timeoutState (.axis 0 .alarm) false) .alarm ∧ (timeoutState.axis 0).state = .waiting) :=
  ⟨by decide, by decide, by decide, by decide, by decide⟩

theorem witness_AcceptedLevels_slow :
    BusyDue (dueAt (slowAxis 400) .slow) .slow ∧ BusyDue (dueAt (slowAxis 401) .slow) .slow ∧
      BusyDue (dueAt (openAxis seek) .slow) .slow ∧
      ((openAxis seek).progress.map ((dueAt (openAxis seek) .slow).walkFrom 0 seek)) = some none :=
  ⟨by decide, by decide, by decide, by decide⟩

theorem witness_AcceptedLevels_home :
    BusyDue (dueAt (openAxis (home5 true)) .home) .home ∧
      BusyDue (dueAt (openStopping (home5 true) false) .home) .home ∧
      BusyDue (dueAt (openStopping (home5 false) false) .home) .home ∧
      BusyDue (dueAt (openStopping (home5 false) true) .home) .home ∧ Cause.linkLost.normal = false ∧
      Cause.linkLost ≠ .estop :=
  ⟨by decide, by decide, by decide, by decide, by decide, by decide⟩

theorem witness_AcceptedLevels_walks :
    (BusyDue (dueInput cruising (.axis 0 .slow) false) .slow ∧
      ∃ p, (cruising.axis 0).progress = some p ∧ (cruising.axis 0).config.slowThreshold ≤ p.rate ∧
        (dueInput cruising (.axis 0 .slow) false).walkFrom 0 ⟨10, false, .move 1000 3000 (some 2) false⟩ p =
          some (2, [⟨.stopWalk, 2000, some 40⟩, ⟨.stopWalk, 1000, some 20⟩, ⟨.stopWalk, 500, some 20⟩])) :=
  ⟨by decide, _, rfl, by decide, by decide⟩

theorem witness_AcceptedLevels_ends_a_wait :
    let s := dueInput (with0 (waitingAxis [waitIn0] (some 4))) (.general 0) true
    s.resetHeld = none ∧ s.AxesFit ∧ s.JoinsSound ∧ (s.input (.general 0)).pending = some s.uptime ∧
      (s.axis 0).state = .waiting ∧ (s.axis 0).queue = [waitIn0] ∧
      (s.axis 0).progress = some (Progress.initial none none [] (some 4)) ∧
      waitIn0.work = .waitInput 0 (s.input (.general 0)).raw 4 ∧
      ∀ b, b ≠ 0 → (s.axis b).waitsFor 0 (s.input (.general 0)).raw = false := by decide

theorem witness_EstopStopsEveryAxis :
    let s := dueInput timeoutState .estop false
    s.resetHeld = none ∧ s.AxesFit ∧ (s.input .estop).pending = some s.uptime ∧ (s.input .estop).raw = true ∧
      (s.axis 0).busy = true ∧ (s.axis 2).state = .disabled := by decide

/-- The link timer is due, and axis 0 moves. -/
def lossState (x : Axis) : State :=
  { with0 x with line := { State.reset.line with timeout := 20, timer := some 0 } }

theorem witness_LinkLossReachesEveryBlock :
    ((lossState (runningAxis 1)).resetHeld = none ∧
      (lossState (runningAxis 1)).line.timer = some (lossState (runningAxis 1)).uptime ∧
      (lossState (runningAxis 1)).AxesFit ∧ ((lossState (runningAxis 1)).axis 0).busy = true ∧
      ((lossState (runningAxis 1)).axis 0).config.linkLossAction = .ramped) ∧
    (∀ a : AxisId, ((lossState idleAxis).axis a).busy = false) ∧ State.reset.line.timer ≠ some State.reset.uptime := by
  decide

/-- Axis 0 moves, and slot 3 watches its next position. -/
def watchedState : State :=
  (with0 (runningAxis 1)).setTrigger 3 (.written ⟨0, 2, .either, .rearm, true, .note⟩ true)

theorem witness_StepsMoveOneAxisAndFireItsTriggers :
    watchedState.resetHeld = none ∧ watchedState.TriggersSound ∧
      (watchedState.axis 0).active = some (move3, progress3 1) ∧
      nextStep (watchedState.axis 0).state (progress3 1) =
        some (⟨.cruise, 400, some 3⟩, { progress3 1 with plan := { legs := plan3, leg := 0, inLeg := 2 } }) ∧
      (progress3 1).direction = some .positive ∧
      ((watchedState.trigger 3).firesAt 0 .positive ((watchedState.axis 0).position + 1)) = true ∧
      (∀ g p, ((with0 (runningAxis 3)).axis 1).active = some (g, p) →
        nextStep ((with0 (runningAxis 3)).axis 1).state p = none) :=
  ⟨by decide, by decide, by decide, by decide, by decide, by decide, by
    intro g p h; cases h⟩

/-- Axis 0 moves, axis 1 dwells, axis 3 walks to a stop, and slot 3 watches axis 0's next position. -/
def actingState (act : Action) : State :=
  ((with0 (runningAxis 1)).setAxis 1 (waitingAxis [dwell5] (some 5)) |>.setAxis 3 (stoppingAxis .linkLost false)).setTrigger 3
    (.written ⟨0, 2, .positive, .oneshot, true, act⟩ true)

/-- The premises about one firing slot hold whatever its action; a STOP_AXIS finds axis 0 RUNNING, axis 1 WAITING, axis 2
DISABLED and axis 3 STOPPING. -/
theorem witness_StepsMoveOneAxis_one_slot (act : Action) (h : act.inRange = true) :
    ((actingState act).resetHeld = none ∧ (actingState act).TriggersSound) ∧
    ((actingState act).axis 0).active = some (move3, progress3 1) ∧
    ((actingState act).trigger 3).fields = some ⟨0, 2, .positive, .oneshot, true, act⟩ ∧
      ((actingState act).trigger 3).state = .armed ∧ (∀ j, j ≠ 3 → ((actingState act).trigger j).fields = none) ∧
    (progress3 1).stepsTaken < 8388607 ∧ (actingState act).accepted (.axis 0 .slow) = false ∧ move3.work.isHome = false ∧
    ((actingState act).axis 1).state = .waiting ∧ ((actingState act).axis 2).state = .disabled ∧
      ((actingState act).axis 3).state = .stopping := by
  have noFields : ∀ j, (State.reset.trigger j).fields = none := by decide
  have noSound : ∀ j, (State.reset.trigger j).sound = true := by decide
  have rest : ∀ j, j ≠ 3 → ((actingState act).trigger j).fields = none := by
    intro j hj
    have : (actingState act).trigger j = State.reset.trigger j := by
      simp only [actingState, State.trigger, State.setTrigger, Fin.getElem_fin]
      exact Vector.getElem_set_ne _ _ (fun e => hj (Fin.ext e.symm))
    rw [this]; exact noFields j
  refine ⟨⟨rfl, fun j => ?_⟩, rfl, rfl, rfl, rest, by decide, rfl, rfl, rfl, rfl, rfl⟩
  by_cases hj : j = 3
  · subst hj
    exact (show ((!false && true) && act.inRange) = true by simp [h])
  · have e : (actingState act).trigger j = State.reset.trigger j := by
      simp only [actingState, State.trigger, State.setTrigger, Fin.getElem_fin]
      exact Vector.getElem_set_ne _ _ (fun e => hj (Fin.ext e.symm))
    rw [e]; exact noSound j

/-- Slots 3 and 7 watch the next position: slot 7 arms slot 3 again, which is ONESHOT, and slot 8, which is DISARMED, is armed
by slot 9. -/
def armingState : State :=
  let f (act : Action) : TriggerFields := ⟨0, 2, .either, .oneshot, false, act⟩
  (((with0 (runningAxis 1)).setTrigger 3 (.written (f .note) true)).setTrigger 7 (.written (f (.armSlot 3)) true)
    |>.setTrigger 8 (.written (f .note) false)).setTrigger 9 (.written (f (.armSlot 8)) true)

theorem witness_StepsMoveOneAxis_slots_arm :
    armingState.resetHeld = none ∧ armingState.TriggersSound ∧
      (armingState.axis 0).active = some (move3, progress3 1) ∧
      (armingState.trigger 3).firesAt 0 .positive 2 = true ∧ (armingState.trigger 7).firesAt 0 .positive 2 = true ∧
      (armingState.trigger 8).state = .disarmed ∧ (armingState.trigger 9).firesAt 0 .positive 2 = true := by decide

/-- R117 and R121: slot 3 is ARMED again, the slots that arm are SPENT, slot 8 is ARMED and has not fired. -/
theorem test_armed_again :
    let t := after (.stepIssue 0) armingState
    (t.trigger 3).state = .armed ∧ (t.trigger 3).fireCount = 1 ∧ (t.trigger 7).state = .spent ∧
      (t.trigger 8).state = .armed ∧ (t.trigger 8).fireCount = 0 ∧ (t.trigger 9).state = .spent := by decide

theorem witness_PlainStepsChangeTheirAxisAlone :
    (with0 (runningAxis 1)).resetHeld = none ∧ ((with0 (runningAxis 1)).axis 0).active = some (move3, progress3 1) ∧
      nextStep ((with0 (runningAxis 1)).axis 0).state (progress3 1) =
        some (⟨.cruise, 400, some 3⟩, { progress3 1 with plan := { legs := plan3, leg := 0, inLeg := 2 } }) ∧
      (progress3 1).direction = some .positive ∧ (progress3 1).stepsTaken < 8388607 ∧
      (with0 (runningAxis 1)).accepted (.axis 0 .slow) = false ∧ move3.work.isHome = false ∧
      ∀ i : Fin 24, ((with0 (runningAxis 1)).trigger i).fields = none := by decide

theorem witness_StepPulsesBeginAndEnd :
    (with0 { idleAxis with pulsesWaiting := 1 }).resetHeld = none ∧
      ((with0 { idleAxis with stepActive := true }).axis 0).stepActive = true ∧
      ((with0 { idleAxis with stepActive := true }).axis 0).dirChanges = [] ∧
      ((with0 { idleAxis with stepActive := true, dirChanges := [(1, .negative)] }).axis 0).dirChanges =
        [(1, .negative)] := by decide

theorem witness_SegmentsEndAfterTheirLastStep :
    ((with0 (runningAxis 3)).resetHeld = none ∧ ((with0 (runningAxis 3)).axis 0).queue = move3 :: [] ∧
      ((with0 (runningAxis 3)).axis 0).progress = some (progress3 3) ∧
      (∀ r ∈ (with0 (runningAxis 3)).joins, r.here 0 = false) ∧ ((with0 (runningAxis 3)).axis 0).state = .running ∧
      (progress3 3).plan.advance = none ∧ (progress3 3).flushPending = false ∧ (progress3 1).plan.advance ≠ none) ∧
    (∃ p, ((with0 (stoppingAxis .stoppedByOrder true)).axis 0).progress = some p ∧
      ((with0 (stoppingAxis .stoppedByOrder true)).axis 0).state = .stopping ∧
      p.walk = some { legs := [⟨.stopWalk, 400, some 1⟩], leg := 0, inLeg := 1 } ∧
      Track.advance { legs := [⟨.stopWalk, 400, some 1⟩], leg := 0, inLeg := 1 } = none ∧
      Track.advance (Track.start [⟨.stopWalk, 400, some 1⟩]) ≠ none ∧ p.recordedCause = some .stoppedByOrder) ∧
    (∃ p, ((with0 (stoppingAxis .homed false)).axis 0).progress = some p ∧ p.recordedCause = some .homed ∧
      p.flushPending = false) :=
  ⟨by decide, ⟨_, rfl, by decide⟩, ⟨_, rfl, by decide⟩⟩

theorem witness_PlansHaveTheStepsOfTheirSegments :
    profile2.all Stage.inRange = true ∧ ascending profile2 = true ∧ rateInRange 3000 = true ∧ countInRange 101 = true ∧
      (Progress.initial (some .positive) (some 101) [] none).count = some 101 := by decide

/-- Axis 1 has arrived at a JOIN, and axis 0 dwells before it. -/
def joinState : State :=
  { (with0 (waitingAxis [dwell5, join9 true] (some 0))).setAxis 1 (waitingAxis [join9 false] none) with
    joins := [record9] }

theorem witness_LastArrivalReleasesTheJoin :
    joinState.resetHeld = none ∧ (0 : AxisId) ≠ 1 ∧ (3 : AxisMask) = axisBit 0 ||| axisBit 1 ∧
      (joinState.axis 0).state = .waiting ∧ (joinState.axis 0).queue = [dwell5, join9 true] ∧
      (joinState.axis 0).progress = some (Progress.initial none none [] (some 0)) ∧ dwell5.work = .dwell 5 ∧
      (Progress.initial none none [] (some 0)).deadline = some joinState.uptime ∧ (join9 true).work = .join 9 3 ∧
      (joinState.axis 1).state = .waiting ∧ (joinState.axis 1).queue = [join9 false] ∧
      (joinState.axis 1).progress = some (Progress.initial none none [] none) ∧ joinState.joins = [record9] ∧
      record9 = { token := 9, members := 3, arrived := axisBit 1 } ∧ joinState.estopActive = false ∧
      joinState.alarmActive 0 = false := by decide

/-- The cruising part, with a step waiting to be taken. -/
def stepping : State := { cruising with pending := [.stepIssue 0] }

theorem witness_PoolAndProfilesStaySound :
    (stepping.SegmentsInRange ∧ stepping.PoolFits ∧ stepping.ProfilesSound ∧ stepping.NamedProfilesDefined) ∧
      step stepping = .next (after (.stepIssue 0) { stepping with pending := [] }) := ⟨by decide, rfl⟩

theorem witness_ReportsTriggersAndChannelsStaySound :
    (watchedState.ReportsSound ∧ watchedState.TriggersSound ∧ watchedState.ChannelsSound) ∧
      step watchedState = .next watchedState := ⟨by decide, rfl⟩

theorem witness_InputsAndLineStaySound :
    (stepping.InputsSound ∧ stepping.LineSound ∧ stepping.QuietInReset) ∧
      step stepping = .next (after (.stepIssue 0) { stepping with pending := [] }) := ⟨by decide, rfl⟩

theorem witness_AxesAndMeetingsStaySound :
    (timeoutState.SegmentsInRange ∧ timeoutState.AxesFit ∧ timeoutState.JoinsSound) ∧
      step timeoutState = .next timeoutState := ⟨by decide, rfl⟩

theorem witness_stepping_sound : stepping.Sound where
  segments := by decide
  pool := by decide
  profiles := by decide
  named := by decide
  axes := by decide
  joins := by decide
  onPlan := by decide
  guarded := by decide
  triggers := by decide
  channels := by decide
  inputs := by decide
  reports := by decide
  line := by decide
  quiet := by decide

theorem witness_MotionStaysOnItsPlan :
    stepping.Sound ∧ step stepping = .next (after (.stepIssue 0) { stepping with pending := [] }) :=
  ⟨witness_stepping_sound, rfl⟩

theorem witness_MotionStaysGuarded :
    stepping.Sound ∧ step stepping = .next (after (.stepIssue 0) { stepping with pending := [] }) :=
  ⟨witness_stepping_sound, rfl⟩

end Sys2Proof.Tests
end

section
/-! The book of meetings with some axes between two of their segments. -/

namespace Sys2Proof.Machine

/-! ### The active segment and the rows of the state table -/

/-- An active segment: the axis is busy, the segment heads its queue, and the progress record is there. -/
theorem Axis.active_eq_some {x : Axis} {g : Segment} {p : Progress} (h : x.active = some (g, p)) :
    (x.state = .running ∨ x.state = .waiting ∨ x.state = .stopping) ∧ (∃ rest, x.queue = g :: rest) ∧
      x.progress = some p := by
  unfold Axis.active at h
  split at h <;> simp_all

theorem Axis.active_of_progress_none {x : Axis} (h : x.progress = none) : x.active = none := by
  unfold Axis.active
  split <;> simp_all

/-- The active segment of a busy axis. -/
theorem Axis.active_of_busy {x : Axis} {g : Segment} {rest : List Segment} {p : Progress}
    (hs : x.state = .running ∨ x.state = .waiting ∨ x.state = .stopping) (hq : x.queue = g :: rest)
    (hp : x.progress = some p) : x.active = some (g, p) := by
  rcases hs with hs | hs | hs <;> simp [Axis.active, hs, hq, hp]

/-- An axis WAITING on a JOIN: its active segment is one. -/
theorem Axis.waitingOnJoin_iff {x : Axis} :
    x.waitingOnJoin = true ↔ x.state = .waiting ∧ ∃ g p, x.active = some (g, p) ∧ g.work.kind = .join := by
  unfold Axis.waitingOnJoin
  split <;> simp_all

theorem Axis.waitsIn_iff {x : Axis} {r : JoinRecord} :
    x.waitsIn r = true ↔ x.state = .waiting ∧ ∃ g p, x.active = some (g, p) ∧ g.work = .join r.token r.members := by
  unfold Axis.waitsIn
  split <;> simp_all

theorem Axis.onJoin_of_waitsIn {x : Axis} {r : JoinRecord} (h : x.waitsIn r = true) : x.waitingOnJoin = true := by
  obtain ⟨hs, g, p, ha, hw⟩ := Axis.waitsIn_iff.1 h
  exact Axis.waitingOnJoin_iff.2 ⟨hs, g, p, ha, by simp [hw, Work.kind]⟩

/-- An axis waits in records of one token only. -/
theorem Axis.waitsIn_token {x : Axis} {r q : JoinRecord} (hr : x.waitsIn r = true) (hq : x.waitsIn q = true) :
    r.token = q.token := by
  obtain ⟨-, g, p, ha, hw⟩ := Axis.waitsIn_iff.1 hr
  obtain ⟨-, g', p', ha', hw'⟩ := Axis.waitsIn_iff.1 hq
  simp_all

theorem Axis.not_waitingOnJoin {x : Axis} (h : x.state ≠ .waiting ∨ x.progress = none) : x.waitingOnJoin = false := by
  rw [Bool.eq_false_iff]
  intro hw
  obtain ⟨hs, g, p, ha, -⟩ := Axis.waitingOnJoin_iff.1 hw
  rcases h with h | h
  · exact h hs
  · simp [Axis.active_of_progress_none h] at ha

/-- What the progress record of a motion has in RUNNING and in STOPPING alike (R41). -/
structure Progress.FitsMotion (p : Progress) (w : Work) : Prop where
  motion : w.motion = true
  direction : p.direction.isSome = true
  count : p.count.isSome = w.counted
  home : p.homeDetected = true → w.isHome = true
  deadline : p.deadline = none
  steps : p.stepsTaken ≤ 8388607

theorem Progress.fitsRunning_iff {p : Progress} {w : Work} :
    p.fitsRunning w = true ↔ p.FitsMotion w ∧ p.walk = none ∧ p.walkProfile = none ∧ p.recordedCause = none ∧
      p.flushPending = false ∧ p.homeDetected = false := by
  constructor
  · intro h
    simp only [Progress.fitsRunning, Bool.and_eq_true, beq_iff_eq, Option.isNone_iff_eq_none, Bool.not_eq_true',
      decide_eq_true_eq] at h
    obtain ⟨⟨⟨⟨⟨⟨⟨⟨⟨hm, hd⟩, hc⟩, hw⟩, hk⟩, hr⟩, hf⟩, hh⟩, hl⟩, hs⟩ := h
    exact ⟨⟨hm, hd, hc, by simp [hh], hl, hs⟩, hw, hk, hr, hf, hh⟩
  · rintro ⟨⟨hm, hd, hc, -, hl, hs⟩, hw, hk, hr, hf, hh⟩
    simp [Progress.fitsRunning, hm, hd, hc, hl, hs, hw, hk, hr, hf, hh]

theorem Progress.fitsStopping_iff {p : Progress} {w : Work} :
    p.fitsStopping w = true ↔ p.FitsMotion w ∧ p.walk.isSome = true ∧ p.walkProfile.isSome = true ∧
      ∃ c, p.recordedCause = some c ∧ (c.normal = true → p.flushPending = false) := by
  constructor
  · intro h
    simp only [Progress.fitsStopping, Bool.and_eq_true, beq_iff_eq, Option.isNone_iff_eq_none,
      decide_eq_true_eq] at h
    obtain ⟨⟨⟨⟨⟨⟨⟨⟨hm, hd⟩, hc⟩, hw⟩, hk⟩, hr⟩, hh⟩, hl⟩, hs⟩ := h
    refine ⟨⟨hm, hd, hc, fun h => by simpa [h] using hh, hl, hs⟩, hw, hk, ?_⟩
    split at hr
    · next c hc => exact ⟨c, hc, fun hn => by simpa [hn] using hr⟩
    · cases hr
  · rintro ⟨⟨hm, hd, hc, hh, hl, hs⟩, hw, hk, c, hr, hf⟩
    cases hn : c.normal <;> cases hd' : p.homeDetected <;>
      simp_all [Progress.fitsStopping]

/-- The row of an axis with an active segment. -/
theorem Axis.fits_active {x : Axis} {g : Segment} {p : Progress} (h : x.fits = true) (ha : x.active = some (g, p)) :
    x.heldCause = .none ∧ (x.state = .running ∧ p.fitsRunning g.work = true ∨
      x.state = .waiting ∧ p.fitsWaiting g.work = true ∨ x.state = .stopping ∧ p.fitsStopping g.work = true) := by
  obtain ⟨hs, ⟨rest, hq⟩, hp⟩ := Axis.active_eq_some ha
  rcases hs with hs | hs | hs <;> simp_all [Axis.fits]

/-- An axis of the table at rest has no progress record. -/
theorem Axis.progress_of_rest {x : Axis} (h : x.fits = true)
    (hs : x.state = .disabled ∨ x.state = .idle ∨ x.state = .held) : x.progress = none := by
  unfold Axis.fits at h
  split at h <;> simp_all

/-! ### Open records -/

theorem mask_eq_iff {m n : AxisMask} : m = n ↔ ∀ a : AxisId, m.getLsbD a.val = n.getLsbD a.val := by
  constructor
  · rintro rfl a; rfl
  · intro h
    exact BitVec.eq_of_getLsbD_eq fun i hi => h ⟨i, hi⟩

theorem State.setAxis_setAxis (s : State) (a : AxisId) (x y : Axis) : (s.setAxis a x).setAxis a y = s.setAxis a y := by
  simp only [State.setAxis, Vector.set_set]

theorem mem_axisIds (a : AxisId) : a ∈ axisIds := by
  revert a
  decide

theorem mem_axesOf {m : AxisMask} {a : AxisId} : a ∈ axesOf m ↔ m.getLsbD a.val = true := by
  simp [axesOf, mem_axisIds]

theorem nodup_axesOf (m : AxisMask) : (axesOf m).Nodup := List.Nodup.filter _ (by decide)

theorem axisBit_getLsbD (a b : AxisId) : (axisBit a).getLsbD b.val = decide (a = b) := by
  revert a b; decide

/-- The arrived mask without one axis. -/
theorem getLsbD_without (m : AxisMask) (a b : AxisId) :
    (m &&& ~~~axisBit a).getLsbD b.val = (m.getLsbD b.val && decide (b ≠ a)) := by
  rw [BitVec.getLsbD_and, BitVec.getLsbD_not, axisBit_getLsbD]
  simp [eq_comm]

/-- A sound record in the words of its members: some have arrived, only members, and not all (R97). -/
theorem JoinRecord.sound_iff {r : JoinRecord} :
    r.sound = true ↔ (1 ≤ r.token ∧ r.token ≤ 63 ∧ 2 ≤ (axesOf r.members).length) ∧ (∃ a, r.here a = true) ∧
      (∀ a, r.here a = true → r.member a = true) ∧ ∃ a, r.member a = true ∧ r.here a = false := by
  have h0 : r.arrived ≠ 0 ↔ ∃ a, r.here a = true := by
    rw [ne_eq, mask_eq_iff]; simp [JoinRecord.here]
  have h1 : r.arrived &&& ~~~r.members = 0 ↔ ∀ a, r.here a = true → r.member a = true := by
    rw [mask_eq_iff]; simp [JoinRecord.here, JoinRecord.member]
  have h2 : (∀ a, r.here a = true → r.member a = true) →
      (r.arrived ≠ r.members ↔ ∃ a, r.member a = true ∧ r.here a = false) := by
    intro hs
    rw [ne_eq, mask_eq_iff, not_forall]
    refine exists_congr fun a => ?_
    have := hs a
    unfold JoinRecord.here JoinRecord.member at this ⊢
    cases hx : r.arrived.getLsbD a.val
    · cases r.members.getLsbD a.val <;> simp
    · simp [this hx]
  simp only [JoinRecord.sound, Bool.and_eq_true, decide_eq_true_eq, bne_iff_ne, beq_iff_eq, h0, h1, and_assoc]
  constructor
  · rintro ⟨t1, t2, t3, he, hs, hp⟩
    exact ⟨t1, t2, t3, he, hs, (h2 hs).1 hp⟩
  · rintro ⟨t1, t2, t3, he, hs, hp⟩
    exact ⟨t1, t2, t3, he, hs, (h2 hs).2 hp⟩

/-! ### The book with some axes unsettled -/

/-- The invariant of axes and meetings with the axes of `E` left out of it: they are between two of their segments, or a
change of their record is under way. -/
structure Book (E : Set AxisId) (s : State) : Prop where
  segments : s.SegmentsInRange
  fits : ∀ a ∉ E, (s.axis a).fits = true
  tokens : (s.joins.map JoinRecord.token).Nodup
  sound : ∀ r ∈ s.joins, r.sound = true
  waits : ∀ a ∉ E, ∀ r ∈ s.joins, r.here a = true → (s.axis a).waitsIn r = true
  arrived : ∀ a ∉ E, (s.axis a).waitingOnJoin = true → ∃ r ∈ s.joins, r.here a = true

/-- The axes of `E` are arrived in no open record. -/
def Away (E : Set AxisId) (s : State) : Prop := ∀ a ∈ E, ∀ r ∈ s.joins, r.here a = false

/-- The axes of `E` have no active segment. -/
def Still (E : Set AxisId) (s : State) : Prop := ∀ a ∈ E, (s.axis a).progress = none

/-- From `s` to `t` every axis outside `E` stays in the book, and those of `E`, which no record holds, are not touched. -/
structure Settles (E : Set AxisId) (s t : State) : Prop where
  book : Book E t
  away : Away E t
  same : ∀ a ∈ E, t.axis a = s.axis a

section
variable {E F : Set AxisId} {s t u : State} {a : AxisId}

theorem Book.mono (h : Book E s) (hE : E ⊆ F) : Book F s where
  segments := h.segments
  fits a ha := h.fits a fun hx => ha (hE hx)
  tokens := h.tokens
  sound := h.sound
  waits a ha := h.waits a fun hx => ha (hE hx)
  arrived a ha := h.arrived a fun hx => ha (hE hx)

theorem Away.mono (h : Away F s) (hE : E ⊆ F) : Away E s := fun a ha => h a (hE ha)

/-- The book reads the axes outside `E` and the records. -/
theorem Book.congr (h : Book E s) (hs : t.SegmentsInRange) (hx : ∀ b ∉ E, t.axis b = s.axis b)
    (hj : t.joins = s.joins) : Book E t where
  segments := hs
  fits b hb := by rw [hx b hb]; exact h.fits b hb
  tokens := by rw [hj]; exact h.tokens
  sound := by rw [hj]; exact h.sound
  waits b hb := by rw [hx b hb, hj]; exact h.waits b hb
  arrived b hb := by rw [hx b hb, hj]; exact h.arrived b hb

theorem Away.congr (h : Away E s) (hj : t.joins = s.joins) : Away E t := by
  unfold Away; rw [hj]; exact h

theorem Still.congr (h : Still E s) (hx : ∀ b ∈ E, t.axis b = s.axis b) : Still E t :=
  fun b hb => by rw [hx b hb]; exact h b hb

/-- Segments stay in range while queues only lose segments. -/
theorem segmentsInRange_of_suffix (h : s.SegmentsInRange) (hq : ∀ b, (t.axis b).queue <:+ (s.axis b).queue) :
    t.SegmentsInRange := by
  intro b
  have hs := h b
  rw [List.all_eq_true] at hs ⊢
  exact fun g hg => hs g ((hq b).subset hg)

theorem segmentsInRange_setAxis (h : s.SegmentsInRange) (a : AxisId) {x : Axis}
    (hq : x.queue <:+ (s.axis a).queue) : (s.setAxis a x).SegmentsInRange :=
  segmentsInRange_of_suffix h fun b => by
    rw [State.axis_setAxis]
    split
    · next e => rw [e]; exact hq
    · exact List.suffix_refl _

/-- A change of axes and records that are equal. -/
theorem Book.of_eq (h : Book E s) (hx : t.axes = s.axes) (hj : t.joins = s.joins) : Book E t :=
  h.congr (fun b => by rw [State.axis, hx]; exact h.segments b) (fun b _ => by rw [State.axis, hx]; rfl) hj

/-- An unsettled axis may be written. -/
theorem Book.setAxis (h : Book E s) (ha : a ∈ E) {x : Axis} (hq : x.queue <:+ (s.axis a).queue) :
    Book E (s.setAxis a x) :=
  h.congr (segmentsInRange_setAxis h.segments a hq)
    (fun b hb => State.axis_setAxis_ne s a b x fun e => hb (e ▸ ha)) rfl

/-- An unsettled axis that is in its row again, and in the one record it waits in, is settled. -/
theorem Book.close (h : Book (insert a E) s) (hf : (s.axis a).fits = true)
    (hw : ∀ r ∈ s.joins, r.here a = true → (s.axis a).waitsIn r = true)
    (hr : (s.axis a).waitingOnJoin = true → ∃ r ∈ s.joins, r.here a = true) : Book E s := by
  have out : ∀ b ∉ E, b ≠ a → b ∉ insert a E := fun b hb e => by simp [hb, e]
  refine ⟨h.segments, fun b hb => ?_, h.tokens, h.sound, fun b hb => ?_, fun b hb => ?_⟩
  all_goals by_cases e : b = a
  · rwa [e]
  · exact h.fits b (out b hb e)
  · rwa [e]
  · exact h.waits b (out b hb e)
  · rwa [e]
  · exact h.arrived b (out b hb e)

/-- No axis is arrived in two records. -/
theorem Book.unique (h : Book E s) (ha : a ∉ E) {r q : JoinRecord} (hr : r ∈ s.joins) (hq : q ∈ s.joins)
    (har : r.here a = true) (haq : q.here a = true) : r = q :=
  List.inj_on_of_nodup_map h.tokens hr hq (Axis.waitsIn_token (h.waits a ha r hr har) (h.waits a ha q hq haq))

/-- A settled axis that does not wait is arrived nowhere. -/
theorem Book.away_of_not_waiting (h : Book E s) (ha : a ∉ E) (hs : (s.axis a).state ≠ .waiting) : Away {a} s := by
  rintro b rfl r hr
  rw [Bool.eq_false_iff]
  intro hh
  exact hs (Axis.waitsIn_iff.1 (h.waits b ha r hr hh)).1

theorem Settles.refl (h : Book E s) (ha : Away E s) : Settles E s s := ⟨h, ha, fun _ _ => rfl⟩

theorem Settles.trans (h : Settles E s t) (k : Settles E t u) : Settles E s u :=
  ⟨k.book, k.away, fun a ha => (k.same a ha).trans (h.same a ha)⟩

theorem Settles.still (h : Settles E s t) (hs : Still E s) : Still E t := hs.congr h.same

theorem Settles.of_eq (h : Book E s) (ha : Away E s) (hx : t.axes = s.axes) (hj : t.joins = s.joins) :
    Settles E s t :=
  ⟨h.of_eq hx hj, ha.congr hj, fun b _ => by rw [State.axis, hx]; rfl⟩

/-- A run of operations that settle, under a condition `P` that settling keeps. -/
theorem foldl_settles {α : Type} {P : State → Prop} (hP : ∀ s t, Settles E s t → P s → P t) (f : State → α → State)
    (hf : ∀ s x, Book E s → Away E s → P s → Settles E s (f s x)) (l : List α) (s : State) (hb : Book E s)
    (ha : Away E s) (hs : P s) : Settles E s (l.foldl f s) := by
  induction l generalizing s with
  | nil => exact .refl hb ha
  | cons x l ih =>
    have h := hf s x hb ha hs
    exact h.trans (ih _ h.book h.away (hP _ _ h hs))

/-! ### Ends -/

theorem closeSegment_joins (a : AxisId) (c : Cause) (s : State) : (closeSegment a c s).joins = s.joins := by
  obtain ⟨-, e⟩ | ⟨g, rest, -, e⟩ := closeSegment_spec a c s
  · rw [e]
  · rw [e]; dsimp only; split <;> rfl

/-- A pending flush empties the queue with the end of the head. -/
theorem closeSegment_flushed {a : AxisId} (c : Cause) {s : State} (h : (s.axis a).flushPending = true) :
    ((closeSegment a c s).axis a).queue = [] := by
  obtain ⟨h0, e⟩ | ⟨g, rest, -, e⟩ := closeSegment_spec a c s
  · rw [e, h0]
  · rw [e]
    simp only [h, if_true]
    split <;> simp

theorem closeSegment_progress {a : AxisId} (c : Cause) {s : State} (h : (s.axis a).queue ≠ []) :
    ((closeSegment a c s).axis a).progress = none := by
  obtain ⟨h0, e⟩ | ⟨g, rest, -, e⟩ := closeSegment_spec a c s
  · exact absurd h0 h
  · rw [e]; dsimp only; split <;> simp

theorem closeSegment_book (c : Cause) (ha : a ∈ E) (h : Book E s) : Book E (closeSegment a c s) :=
  h.congr (segmentsInRange_of_suffix h.segments (closeSegment_frame a c s).queue)
    (fun b hb => closeSegment_other a b c s fun e => hb (e ▸ ha)) (closeSegment_joins a c s)

/-- A record after a withdrawal comes from one before it, with the one axis taken out. -/
theorem mem_withdraw {r : JoinRecord} (h : r ∈ (withdraw a s).joins) :
    ∃ q ∈ s.joins, r.token = q.token ∧ r.members = q.members ∧ ((∃ b, r.here b = true) ∨ r = q) ∧
      ∀ b, r.here b = (q.here b && decide (b ≠ a)) := by
  simp only [withdraw, List.mem_filterMap] at h
  obtain ⟨q, hq, h⟩ := h
  refine ⟨q, hq, ?_⟩
  split at h
  · split at h
    · cases h
    · next h0 =>
      obtain rfl := Option.some.inj h
      refine ⟨rfl, rfl, .inl ?_, fun b => getLsbD_without _ a b⟩
      rw [mask_eq_iff, not_forall] at h0
      obtain ⟨b, hb⟩ := h0
      exact ⟨b, by simpa [JoinRecord.here] using hb⟩
  · next hn =>
    obtain rfl := Option.some.inj h
    refine ⟨rfl, rfl, .inr rfl, fun b => ?_⟩
    by_cases e : b = a
    · simp_all
    · simp [e]

/-- A record in which another axis is arrived outlives a withdrawal. -/
theorem withdraw_keeps {b : AxisId} {q : JoinRecord} (hq : q ∈ s.joins) (hh : q.here b = true) (hb : b ≠ a) :
    ∃ r ∈ (withdraw a s).joins, r.here b = true := by
  have hbit : (q.arrived &&& ~~~axisBit a).getLsbD b.val = true := by
    rw [getLsbD_without, Bool.and_eq_true]
    exact ⟨hh, decide_eq_true hb⟩
  by_cases ha : q.here a = true
  · refine ⟨{ q with arrived := q.arrived &&& ~~~axisBit a }, ?_, hbit⟩
    simp only [withdraw, List.mem_filterMap]
    refine ⟨q, hq, ?_⟩
    rw [if_pos ha, if_neg]
    intro h0
    rw [h0] at hbit
    simp at hbit
  · refine ⟨q, ?_, hh⟩
    simp only [withdraw, List.mem_filterMap]
    exact ⟨q, hq, if_neg ha⟩

theorem withdraw_tokens (h : (s.joins.map JoinRecord.token).Nodup) :
    ((withdraw a s).joins.map JoinRecord.token).Nodup := by
  refine h.sublist ?_
  simp only [withdraw]
  induction s.joins with
  | nil => exact List.Sublist.refl _
  | cons r l ih =>
    rw [List.filterMap_cons]
    split
    · exact ih.cons _
    · next q hq =>
      have : q.token = r.token := by
        split at hq
        · split at hq
          · cases hq
          · rw [← Option.some.inj hq]
        · rw [← Option.some.inj hq]
      simpa [this] using ih

/-- After its withdrawal an unsettled axis is arrived nowhere. -/
theorem withdraw_settles (h : Book (insert a E) s) (ha : Away E s) : Settles (insert a E) s (withdraw a s) := by
  refine ⟨⟨h.segments, h.fits, withdraw_tokens h.tokens, fun r hr => ?_, fun b hb r hr hh => ?_, fun b hb hw => ?_⟩,
    fun b hb r hr => ?_, fun b _ => rfl⟩
  · obtain ⟨q, hq, ht, hm, hb, hh⟩ := mem_withdraw hr
    obtain ⟨hrange, he, hs, c, hc, hn⟩ := JoinRecord.sound_iff.1 (h.sound q hq)
    have hmem : ∀ b, r.member b = q.member b := fun b => by simp [JoinRecord.member, hm]
    refine JoinRecord.sound_iff.2 ⟨by rwa [ht, hm], ?_, fun d hd => ?_, c, by rwa [hmem], by simp [hh, hn]⟩
    · rcases hb with hb | rfl
      · exact hb
      · exact he
    · rw [hh] at hd
      rw [hmem]
      exact hs d (Bool.and_eq_true_iff.1 hd).1
  · obtain ⟨q, hq, ht, hm, -, hq'⟩ := mem_withdraw hr
    rw [hq'] at hh
    have hw := h.waits b hb q hq (Bool.and_eq_true_iff.1 hh).1
    rw [Axis.waitsIn_iff] at hw ⊢
    rw [ht, hm]
    exact hw
  · obtain ⟨q, hq, hh⟩ := h.arrived b hb hw
    exact withdraw_keeps hq hh fun e => hb (by simp [e])
  · obtain ⟨q, hq, -, -, -, hh⟩ := mem_withdraw hr
    rw [hh]
    by_cases e : b = a
    · simp [e]
    · simp [ha b (by simpa [e] using hb) q hq]

/-- `settle` writes one axis, which is in a row of the table then. -/
theorem settle_spec (a : AxisId) (c : Cause) (f : Bool) (s : State) (hf : f = true → (s.axis a).queue = []) :
    ∃ x : Axis, settle a c f s = s.setAxis a x ∧ x.queue = (s.axis a).queue ∧ x.progress = none ∧ x.fits = true := by
  unfold settle
  split
  · refine ⟨_, rfl, rfl, rfl, ?_⟩
    cases h : (s.axis a).config.estopDisables <;> simp [Axis.fits]
  · split
    · next h => exact ⟨_, rfl, rfl, rfl, by simp [Axis.fits, hf h.2]⟩
    · exact ⟨_, rfl, rfl, rfl, by simp [Axis.fits]⟩

/-- An unsettled axis that is arrived nowhere may be put into a row of the table in which it does not wait. -/
theorem setAxis_settles (h : Book (insert a E) s) (hw : Away (insert a E) s) (ha : a ∉ E) {x : Axis}
    (hq : x.queue <:+ (s.axis a).queue) (hf : x.fits = true) (hx : x.state ≠ .waiting ∨ x.progress = none) :
    Settles E s (s.setAxis a x) := by
  refine ⟨(h.setAxis (by simp) hq).close ?_ (fun r hr hh => ?_) (fun hj => ?_), ?_, fun b hb => ?_⟩
  · simpa using hf
  · simp [hw a (by simp) r hr] at hh
  · simp [Axis.not_waitingOnJoin hx] at hj
  · exact (hw.mono (Set.subset_insert a E)).congr rfl
  · exact State.axis_setAxis_ne s a b x fun e => ha (e ▸ hb)

theorem settle_settles {c : Cause} {f : Bool} (h : Book (insert a E) s) (hw : Away (insert a E) s) (ha : a ∉ E)
    (hf : f = true → (s.axis a).queue = []) : Settles E s (settle a c f s) := by
  obtain ⟨x, e, hq, hp, hx⟩ := settle_spec a c f s hf
  rw [e]
  exact setAxis_settles h hw ha (hq ▸ List.suffix_refl _) hx (.inr hp)

/-! ### Breaks -/

/-- Every step of a break search that settles what it is given (R105: each break may start another search). -/
def SearchSettles (search : AxisId → State → State) : Prop :=
  ∀ (E : Set AxisId) (a : AxisId) (s : State), Book E s → Away E s → Settles E s (search a s)

/-- The JOIN of a member of a broken record ends, and its axis is settled again. -/
theorem endBroken_settles {search : AxisId → State → State} (hs : SearchSettles search) (h : Book (insert a E) s)
    (hw : Away (insert a E) s) (ha : a ∉ E) (hj : (s.axis a).waitingOnJoin = true) :
    Settles E s (endBroken search a s) := by
  have hc := closeSegment_book .joinBroken (Set.mem_insert a E) h
  have hcw : Away E (closeSegment a .joinBroken s) :=
    (hw.mono (Set.subset_insert a E)).congr (closeSegment_joins a .joinBroken s)
  have hwd := withdraw_settles hc hcw
  have hse := hwd.trans (hs _ a _ hwd.book hwd.away)
  simp only [endBroken, hj, if_true]
  have hse' := settle_settles (c := .joinBroken) (f := (s.axis a).flushPending) hse.book hse.away ha fun hf => by
    rw [hse.same a (by simp)]
    exact closeSegment_flushed _ hf
  refine ⟨hse'.book, hse'.away, fun b hb => ?_⟩
  rw [hse'.same b hb, hse.same b (by simp [hb])]
  exact closeSegment_other a b _ s fun e => ha (e ▸ hb)

/-- The JOINs of the arrived members of a record that has been freed end one by one. -/
theorem foldl_endBroken_settles {search : AxisId → State → State} (hs : SearchSettles search) (l : List AxisId)
    (hn : l.Nodup) (s : State) (h : Book ({b | b ∈ l} ∪ E) s) (hw : Away ({b | b ∈ l} ∪ E) s)
    (hl : ∀ b ∈ l, b ∉ E ∧ (s.axis b).waitingOnJoin = true) :
    Settles E s (l.foldl (fun s b => endBroken search b s) s) := by
  induction l generalizing s with
  | nil => simpa using Settles.refl (by simpa using h) (by simpa using hw)
  | cons b l ih =>
    obtain ⟨hb, hn⟩ := List.nodup_cons.1 hn
    have e : ({c | c ∈ b :: l} ∪ E : Set AxisId) = insert b ({c | c ∈ l} ∪ E) := by ext c; simp [or_assoc]
    rw [e] at h hw
    have hbE : b ∉ ({c | c ∈ l} ∪ E : Set AxisId) := by simpa using ⟨hb, (hl b (by simp)).1⟩
    have h1 := endBroken_settles hs h hw hbE (hl b (by simp)).2
    have h2 := ih hn _ h1.book h1.away fun c hc => by
      rw [h1.same c (by simp [hc])]
      exact hl c (by simp [hc])
    exact ⟨h2.book, h2.away, fun c hc => (h2.same c hc).trans (h1.same c (by simp [hc]))⟩

/-- An open record is freed: the axes arrived in it become unsettled, and are arrived nowhere. -/
theorem free_record (h : Book E s) (hw : Away E s) {r : JoinRecord} (hr : r ∈ s.joins) :
    Book ({b | r.here b = true} ∪ E) { s with joins := s.joins.filter fun q => q.token != r.token } ∧
      Away ({b | r.here b = true} ∪ E) { s with joins := s.joins.filter fun q => q.token != r.token } := by
  have hb : Book ({b | r.here b = true} ∪ E) s := h.mono Set.subset_union_right
  refine ⟨⟨hb.segments, hb.fits, hb.tokens.sublist ?_, fun q hq => hb.sound q (List.mem_of_mem_filter hq),
    fun b hn q hq => hb.waits b hn q (List.mem_of_mem_filter hq), fun b hn hj => ?_⟩, fun b hn q hq => ?_⟩
  · exact (List.filter_sublist).map _
  · obtain ⟨q, hq, hh⟩ := hb.arrived b hn hj
    refine ⟨q, List.mem_filter.2 ⟨hq, ?_⟩, hh⟩
    rw [bne_iff_ne]
    intro e
    obtain rfl := List.inj_on_of_nodup_map h.tokens hq hr e
    exact hn (.inl hh)
  · obtain ⟨hq, ht⟩ := List.mem_filter.1 hq
    by_cases hE : b ∈ E
    · exact hw b hE q hq
    · have hrb : r.here b = true := by
        rcases hn with hn | hn
        · exact hn
        · exact absurd hn hE
      rw [Bool.eq_false_iff]
      intro hh
      rw [h.unique hE hq hr hh hrb] at ht
      simp at ht

theorem breakRecord_settles {search : AxisId → State → State} (hs : SearchSettles search) (token : Nat) (h : Book E s)
    (hw : Away E s) : Settles E s (breakRecord search token s) := by
  unfold breakRecord
  split
  · exact .refl h hw
  · next r hf =>
    have hr : r ∈ s.joins := List.mem_of_find?_eq_some hf
    have ht : r.token = token := by simpa using List.find?_some hf
    obtain ⟨hb, ha⟩ := free_record h hw hr
    have e : ({b | b ∈ axesOf r.arrived} : Set AxisId) = {b | r.here b = true} := by
      ext b; simp [mem_axesOf, JoinRecord.here]
    rw [← e, ht] at hb ha
    have := foldl_endBroken_settles hs (axesOf r.arrived) (nodup_axesOf _) _ hb ha fun b hb => by
      have hh : r.here b = true := mem_axesOf.1 hb
      have hE : b ∉ E := fun hE => by simp [hw b hE r hr] at hh
      exact ⟨hE, Axis.onJoin_of_waitsIn (h.waits b hE r hr hh)⟩
    exact ⟨this.book, this.away, this.same⟩

theorem breakSearch_settles (fuel : Nat) : SearchSettles (breakSearch fuel) := by
  induction fuel with
  | zero => exact fun E a s h hw => .refl h hw
  | succ fuel ih =>
    intro E a s h hw
    unfold breakSearch
    obtain ⟨n, hn⟩ := (drawOrder_spec ((s.joins.filter fun r => r.member a && !r.here a).map JoinRecord.token) s).2
    dsimp only
    rw [hn]
    generalize (drawOrder _ s).1 = order
    have h0 : Settles E s { s with freeCount := n } := .of_eq h hw rfl rfl
    exact h0.trans (foldl_settles (P := fun _ => True) (fun _ _ _ _ => trivial) _
      (fun s t h hw _ => breakRecord_settles ih t h hw) order _ h0.book h0.away trivial)

theorem notifyJoins_settles (c : Cause) (h : Book (insert a E) s) (hw : Away E s) :
    Settles (insert a E) s (notifyJoins a c s) := by
  have h1 := withdraw_settles h hw
  unfold notifyJoins
  dsimp only
  split
  · exact h1.trans (breakSearch_settles _ _ a _ h1.book h1.away)
  · exact h1

/-- The head segment of an unsettled axis ends with a cause that holds the axis. -/
theorem endHeld_settles (c : Cause) (h : Book (insert a E) s) (hw : Away E s) (ha : a ∉ E) :
    Settles E s (endHeld a c s) := by
  have hc := closeSegment_book c (Set.mem_insert a E) h
  have h1 := notifyJoins_settles c hc (hw.congr (closeSegment_joins a c s))
  have h2 := settle_settles (c := c) (f := (s.axis a).flushPending) h1.book h1.away ha fun hf => by
    rw [h1.same a (by simp)]
    exact closeSegment_flushed c hf
  refine ⟨h2.book, h2.away, fun b hb => ?_⟩
  exact ((h2.same b hb).trans (h1.same b (by simp [hb]))).trans (closeSegment_other a b c s fun e => ha (e ▸ hb))

end

end Sys2Proof.Machine
end

section
/-! Stop requests (R66 to R76) and what follows a step (R56, R79, R90), as to the book of meetings: each settles the axes
it is given. -/

namespace Sys2Proof.Machine

/-! ### Stop requests -/

/-- What a stop request can come to (R66, R67, R69, R70, R75, R76): nothing without an active segment; the end of the
segment; a walk of a RUNNING axis, with at least one leg; or a walk that goes on with its cause decided anew. -/
theorem stopEffect_cases (s : State) (a : AxisId) (c : Cause) (m : StopMode) (f : Bool) :
    (s.axis a).active = none ∧ stopEffect s a c m f = .nothing ∨
    ∃ g p, (s.axis a).active = some (g, p) ∧
      ((∃ c', stopEffect s a c m f = .ends { p with flushPending := p.flushPending || f } c') ∨
       ((s.axis a).state = .running ∧ ∃ k l ls, walkLegs (s.profile k) (s.axis a).currentRate
          { p with flushPending := p.flushPending || f } = l :: ls ∧
        stopEffect s a c m f = .walks { p with
          flushPending := p.flushPending || f, walk := some (Track.start (l :: ls)), walkProfile := some k
          recordedCause := some c }) ∨
       ((s.axis a).state = .stopping ∧ stopEffect s a c m f = .walks { p with
          flushPending := p.flushPending || f, recordedCause := some (rampedCause p.recordedCause c) })) := by
  cases ha : (s.axis a).active with
  | none => exact .inl ⟨rfl, by simp [stopEffect, ha]⟩
  | some v =>
    obtain ⟨g, p⟩ := v
    refine .inr ⟨g, p, rfl, ?_⟩
    obtain ⟨hs | hs | hs, -, -⟩ := Axis.active_eq_some ha
    · cases m with
      | abrupt => exact .inl ⟨c, by simp [stopEffect, ha, hs]⟩
      | ramped =>
        simp only [stopEffect, ha, hs, rampedStop]
        split
        · exact .inl ⟨c, rfl⟩
        · next k _ =>
          split
          · exact .inl ⟨c, rfl⟩
          · next l ls hl => exact .inr (.inl ⟨trivial, k, l, ls, hl, rfl⟩)
    · exact .inl ⟨c, by simp [stopEffect, ha, hs]⟩
    · cases m with
      | abrupt => exact .inl ⟨overtakenCause p.recordedCause c, by simp [stopEffect, ha, hs]⟩
      | ramped => exact .inr (.inr ⟨hs, by simp [stopEffect, ha, hs]⟩)

/-- The record of an axis that a stop request may reach: a motion in the parts that RUNNING and STOPPING share, or a
wait. HOME's home event has set home detected of a RUNNING axis before its request is taken (R87). -/
def Axis.Stoppable (x : Axis) : Prop :=
  x.heldCause = .none ∧ ∃ g p, x.active = some (g, p) ∧
    (x.state = .running ∧ p.FitsMotion g.work ∧ p.flushPending = false ∨ x.state = .waiting ∨
      x.state = .stopping ∧ p.fitsStopping g.work = true)

theorem Axis.stoppable_of_fits {x : Axis} {g : Segment} {p : Progress} (h : x.fits = true) (ha : x.active = some (g, p)) :
    x.Stoppable := by
  obtain ⟨hc, ⟨hs, hf⟩ | ⟨hs, -⟩ | ⟨hs, hf⟩⟩ := Axis.fits_active h ha
  · obtain ⟨hm, -, -, -, hf, -⟩ := Progress.fitsRunning_iff.1 hf
    exact ⟨hc, g, p, ha, .inl ⟨hs, hm, hf⟩⟩
  · exact ⟨hc, g, p, ha, .inr (.inl hs)⟩
  · exact ⟨hc, g, p, ha, .inr (.inr ⟨hs, hf⟩)⟩

/-- The row of a STOPPING axis. -/
theorem Axis.fits_stopping {x : Axis} {g : Segment} {rest : List Segment} {p : Progress} (hs : x.state = .stopping)
    (hq : x.queue = g :: rest) (hp : x.progress = some p) (hc : x.heldCause = .none) (h : p.fitsStopping g.work = true) :
    x.fits = true := by
  simp [Axis.fits, hs, hq, hp, hc, h]

/-- The row of a RUNNING axis. -/
theorem Axis.fits_running {x : Axis} {g : Segment} {rest : List Segment} {p : Progress} (hs : x.state = .running)
    (hq : x.queue = g :: rest) (hp : x.progress = some p) (hc : x.heldCause = .none) (h : p.fitsRunning g.work = true) :
    x.fits = true := by
  simp [Axis.fits, hs, hq, hp, hc, h]

/-- The row of a WAITING axis. -/
theorem Axis.fits_waiting {x : Axis} {g : Segment} {rest : List Segment} {p : Progress} (hs : x.state = .waiting)
    (hq : x.queue = g :: rest) (hp : x.progress = some p) (hc : x.heldCause = .none) (h : p.fitsWaiting g.work = true) :
    x.fits = true := by
  simp [Axis.fits, hs, hq, hp, hc, h]

/-- The cause that a ramped request leaves recorded is normal only where both are (R76). -/
theorem rampedCause_normal {r c : Cause} (h : (rampedCause (some r) c).normal = true) :
    r.normal = true ∧ c.normal = true := by
  unfold rampedCause at h
  cases hr : r.normal <;> simp_all

variable {E : Set AxisId} {s : State} {a : AxisId}

/-- A stop request of an unsettled axis, where `ender` settles the axis. -/
theorem applyStop_settles {ender : AxisId → Cause → State → State} (m : StopMode) {c : Cause} {f : Bool}
    (he : ∀ c t, Book (insert a E) t → Away E t → t.joins = s.joins → (∀ b, b ≠ a → t.axis b = s.axis b) →
      Settles E t (ender a c t))
    (h : Book (insert a E) s) (hw : Away E s) (ha : a ∉ E) (hx : (s.axis a).Stoppable)
    (hn : (s.axis a).state ≠ .waiting → Away {a} s) (hc : c.normal = true → f = false) :
    Settles E s (applyStop ender a (stopEffect s a c m f) s) := by
  have other : ∀ (x : Axis) (b), b ≠ a → (s.setAxis a x).axis b = s.axis b :=
    fun x b hb => State.axis_setAxis_ne s a b x hb
  obtain ⟨hheld, g, p, hact, hx⟩ := hx
  obtain ⟨-, ⟨rest, hq⟩, hp⟩ := Axis.active_eq_some hact
  have walk : ∀ q : Progress, (s.axis a).state ≠ .waiting → q.fitsStopping g.work = true →
      Settles E s (s.setAxis a { s.axis a with state := .stopping, progress := some q }) := by
    intro q hs hf
    refine setAxis_settles h ?_ ha (List.suffix_refl _) (Axis.fits_stopping rfl hq rfl hheld hf) (.inl (by simp))
    intro b hb
    rcases hb with rfl | hb
    · exact hn hs b rfl
    · exact hw b hb
  obtain ⟨hnone, -⟩ | ⟨g', p', hact', hcase⟩ := stopEffect_cases s a c m f
  · simp [hnone] at hact
  obtain ⟨rfl, rfl⟩ : g' = g ∧ p' = p := by simpa [hact'] using hact
  rcases hcase with ⟨c', e⟩ | ⟨hs, k, l, ls, -, e⟩ | ⟨hs, e⟩
  · rw [e]
    have h1 := he c' _ (h.setAxis (x := { s.axis a with progress := some { p' with flushPending := p'.flushPending || f } })
      (by simp) (List.suffix_refl _)) (hw.congr rfl) rfl (other _)
    exact ⟨h1.book, h1.away, fun b hb => (h1.same b hb).trans (other _ b fun e => ha (e ▸ hb))⟩
  · obtain ⟨-, ⟨hd, hcnt, hm, hh, hl, hst⟩, hf⟩ | hs' | ⟨hs', -⟩ := hx
    · rw [e]
      refine walk _ (by simp [hs]) (Progress.fitsStopping_iff.2 ⟨⟨hd, hcnt, hm, hh, hl, hst⟩, rfl, rfl, c, rfl, ?_⟩)
      intro hcn
      simp [hf, hc hcn]
    · simp [hs] at hs'
    · simp [hs] at hs'
  · obtain ⟨hs', -⟩ | hs' | ⟨-, hf⟩ := hx
    · simp [hs] at hs'
    · simp [hs] at hs'
    · obtain ⟨⟨hd, hcnt, hm, hh, hl, hst⟩, hwk, hpr, r, hr, hfl⟩ := Progress.fitsStopping_iff.1 hf
      rw [e]
      refine walk _ (by simp [hs]) (Progress.fitsStopping_iff.2 ⟨⟨hd, hcnt, hm, hh, hl, hst⟩, hwk, hpr, _, rfl, ?_⟩)
      rw [hr]
      intro hcn
      obtain ⟨h1, h2⟩ := rampedCause_normal hcn
      simp [hfl h1, hc h2]

/-- An axis with an active segment is not one of those that have none. -/
theorem not_mem_of_active (hs : Still E s) {g : Segment} {p : Progress} (ha : (s.axis a).active = some (g, p)) :
    a ∉ E := by
  intro hE
  simp [Axis.active_of_progress_none (hs a hE)] at ha

/-- A stop request of a cause that holds the axis (R66, R118). -/
theorem stopHeld_settles (m : StopMode) {c : Cause} {f : Bool} (h : Book E s) (hw : Away E s) (hs : Still E s)
    (hc : c.normal = true → f = false) : Settles E s (stopHeld a c m f s) := by
  cases hact : (s.axis a).active with
  | none =>
    have : stopEffect s a c m f = .nothing := by simp [stopEffect, hact]
    simp only [stopHeld, this, applyStop]
    exact .refl h hw
  | some v =>
    obtain ⟨g, p⟩ := v
    have ha := not_mem_of_active hs hact
    exact applyStop_settles m (fun c t hb hw _ _ => endHeld_settles c hb hw ha) (h.mono (Set.subset_insert a E)) hw ha
      (Axis.stoppable_of_fits (h.fits a ha) hact) (h.away_of_not_waiting ha) hc

/-- A settled axis that does not wait takes another row in which it does not wait. -/
theorem setAxis_moving (h : Book E s) (hw : Away E s) (ha : a ∉ E) (hs : (s.axis a).state ≠ .waiting) {x : Axis}
    (hq : x.queue <:+ (s.axis a).queue) (hf : x.fits = true) (hx : x.state ≠ .waiting ∨ x.progress = none) :
    Settles E s (s.setAxis a x) := by
  refine setAxis_settles (h.mono (Set.subset_insert a E)) ?_ ha hq hf hx
  intro b hb
  rcases hb with rfl | hb
  · exact h.away_of_not_waiting ha hs b rfl
  · exact hw b hb

/-! ### Triggers and steps -/

theorem applyAction_settles (act : Action) (h : Book E s) (hw : Away E s) (hs : Still E s) :
    Settles E s (applyAction act s) := by
  cases act with
  | stopAxis k m => exact stopHeld_settles m h hw hs (by simp [Cause.normal])
  | armSlot m =>
    simp only [applyAction, armSlot]
    split <;> exact .of_eq h hw rfl rfl
  | outSet | outClear | outPulse | pwmDuty | note => exact .of_eq h hw rfl rfl

theorem fireSlot_settles (p : Position) (i : Fin 24) (h : Book E s) (hw : Away E s) (hs : Still E s) :
    Settles E s (fireSlot p i s) := by
  unfold fireSlot
  split
  · exact .refl h hw
  · next f _ =>
    dsimp only
    have h1 : Settles E s (if f.report then
        admitReport (.triggerFired i f.axis p ((s.trigger i).fired f).fireCount) (s.setTrigger i ((s.trigger i).fired f))
        else s.setTrigger i ((s.trigger i).fired f)) := by
      split <;> exact .of_eq h hw rfl rfl
    exact h1.trans (applyAction_settles _ h1.book h1.away (h1.still hs))

theorem fireAll_settles (p : Position) (set : List (Fin 24)) (h : Book E s) (hw : Away E s) (hs : Still E s) :
    Settles E s (fireAll p set s) :=
  foldl_settles (fun _ _ k => k.still) _ (fun _ i h hw hs => fireSlot_settles p i h hw hs) set s h hw hs

theorem zoneRequest_settles (h : Book E s) (hw : Away E s) (hs : Still E s) : Settles E s (zoneRequest a s) := by
  unfold zoneRequest
  split
  · exact stopHeld_settles _ h hw hs (by simp)
  · exact .refl h hw

theorem limitRequest_settles (met : Bool) (h : Book E s) (hw : Away E s) (hs : Still E s) :
    Settles E s (limitRequest met a s) := by
  unfold limitRequest
  split
  · exact stopHeld_settles _ h hw hs (by simp)
  · exact .refl h hw

/-- An operation that settles whatever book it is given, with every unsettled axis at rest. -/
def KeepsBook (E : Set AxisId) (f : State → State) : Prop :=
  ∀ s, Book E s → Away E s → Still E s → Settles E s (f s)

theorem KeepsBook.comp {f g : State → State} (hf : KeepsBook E f) (hg : KeepsBook E g) :
    KeepsBook E fun s => g (f s) := fun s h hw hs =>
  have h1 := hf s h hw hs
  h1.trans (hg _ h1.book h1.away (h1.still hs))

theorem afterStep_settles (a : AxisId) (d : Direction) : KeepsBook E (afterStep a d) := by
  intro s h hw hs
  have hz : KeepsBook E (zoneRequest a) := fun s h hw hs => zoneRequest_settles h hw hs
  have hl : ∀ met, KeepsBook E (limitRequest met a) := fun met s h hw hs => limitRequest_settles met h hw hs
  have hf : ∀ p set, KeepsBook E (fireAll p set) := fun p set s h hw hs => fireAll_settles p set h hw hs
  have hn : KeepsBook E fun s => { s with freeCount := s.freeCount + 1 } := fun s h hw hs => .of_eq h hw rfl rfl
  unfold afterStep
  dsimp only
  split
  · split
    · exact hz s h hw hs
    · split
      · exact (hn.comp (hz.comp ((hf _ _).comp (hl _)))) s h hw hs
      · split
        · exact (hn.comp ((hf _ _).comp (hz.comp (hl _)))) s h hw hs
        · exact (hn.comp ((hf _ _).comp ((hl _).comp hz))) s h hw hs
  · exact ((hf _ _).comp (hl _)) s h hw hs

/-- The next step of a RUNNING axis comes from its plan, and of a STOPPING one from its walk; nothing else of the progress
record changes (R55). -/
theorem nextStep_cases {st : AxisState} {p q : Progress} {l : Leg} (h : nextStep st p = some (l, q)) :
    st = .running ∧ (∃ t, p.plan.advance = some (l, t) ∧ q = { p with plan := t }) ∨
      st = .stopping ∧ ∃ w t, p.walk = some w ∧ w.advance = some (l, t) ∧ q = { p with walk := some t } := by
  unfold nextStep at h
  split at h
  · obtain ⟨⟨l', t⟩, ht, e⟩ := Option.map_eq_some_iff.1 h
    simp only [Prod.mk.injEq] at e
    exact .inl ⟨rfl, t, by rw [ht, e.1], e.2.symm⟩
  · split at h
    · next w hw =>
      obtain ⟨⟨l', t⟩, ht, e⟩ := Option.map_eq_some_iff.1 h
      simp only [Prod.mk.injEq] at e
      exact .inr ⟨rfl, w, t, hw, by rw [ht, e.1], e.2.symm⟩
    · cases h
  all_goals cases h

theorem addSaturating_le {top n : Nat} (h : n ≤ top) : addSaturating top n ≤ top := by
  unfold addSaturating; split <;> omega

/-- A step that is issued keeps the axis in its row. -/
theorem issueStep_settles (a : AxisId) : KeepsBook E (issueStep a) := by
  intro s h hw hs
  unfold issueStep
  split
  · exact .refl h hw
  · next g p hact =>
    split
    · exact .refl h hw
    · next l q hq =>
      have ha := not_mem_of_active hs hact
      obtain ⟨-, ⟨rest, hque⟩, -⟩ := Axis.active_eq_some hact
      have h1 : Settles E s (issue a l q s) := by
        obtain ⟨hc, hrow⟩ := Axis.fits_active (h.fits a ha) hact
        rcases nextStep_cases hq with ⟨hst, t, -, rfl⟩ | ⟨hst, w, t, -, -, rfl⟩
        · obtain ⟨-, hfit⟩ | ⟨hst', -⟩ | ⟨hst', -⟩ := hrow
          · obtain ⟨⟨hd, hcnt, hm, hh, hl, hsteps⟩, hwalk⟩ := Progress.fitsRunning_iff.1 hfit
            refine setAxis_moving h hw ha (by simp [hst]) (List.suffix_refl _)
              (Axis.fits_running hst hque rfl hc (Progress.fitsRunning_iff.2
                ⟨⟨hd, hcnt, hm, hh, hl, addSaturating_le hsteps⟩, hwalk⟩)) (.inl (by simp [hst]))
          · simp [hst] at hst'
          · simp [hst] at hst'
        · obtain ⟨hst', -⟩ | ⟨hst', -⟩ | ⟨-, hfit⟩ := hrow
          · simp [hst] at hst'
          · simp [hst] at hst'
          · obtain ⟨⟨hd, hcnt, hm, hh, hl, hsteps⟩, -, hwalk⟩ := Progress.fitsStopping_iff.1 hfit
            refine setAxis_moving h hw ha (by simp [hst]) (List.suffix_refl _)
              (Axis.fits_stopping hst hque rfl hc (Progress.fitsStopping_iff.2
                ⟨⟨hd, hcnt, hm, hh, hl, addSaturating_le hsteps⟩, rfl, hwalk⟩)) (.inl (by simp [hst]))
      exact h1.trans (afterStep_settles a _ _ h1.book h1.away (h1.still hs))

end Sys2Proof.Machine
end

section
/-! What the activation checks can answer (R49 to R53), and what an arrival at a join makes of the book (R97 to R99). -/

namespace Sys2Proof.Machine

/-! ### Activation -/

/-- The checks of a motion end the segment or start it in the direction and with the count they are given (R51, R52). -/
theorem checkMotion_cases (a : AxisId) (rate : Nat) (profile : Option ProfileId) (d : Direction) (count : Option Nat)
    (s : State) :
    (∃ c, checkMotion a rate profile d count s = .ends c) ∨
      ∃ legs, checkMotion a rate profile d count s = .motion d count legs := by
  unfold checkMotion
  dsimp only
  split
  · exact .inl ⟨_, rfl⟩
  · split
    · exact .inl ⟨_, rfl⟩
    · split
      · exact .inr ⟨_, rfl⟩
      · exact .inr ⟨_, rfl⟩

/-- What the checks answer fits the segment's kind (R49 to R53): it ends, or a motion starts with a count where the kind
is counted, or a wait other than a JOIN starts with a deadline where the kind has one, or a JOIN arrives. -/
theorem activationCheck_cases (a : AxisId) (g : Segment) (s : State) :
    (∃ c, activationCheck a g s = .ends c) ∨
    (∃ d n legs, activationCheck a g s = .motion d n legs ∧ g.work.motion = true ∧ n.isSome = g.work.counted) ∨
    (∃ l, activationCheck a g s = .waits l ∧ g.work.motion = false ∧ g.work.kind ≠ .join ∧ l.isSome = g.work.timed) ∨
    ∃ t m, activationCheck a g s = .arrives t m ∧ g.work = .join t m := by
  unfold activationCheck
  cases g.work with
  | move count rate profile negative =>
    obtain ⟨c, e⟩ | ⟨legs, e⟩ := checkMotion_cases a rate profile (directionOf negative) (some count) s
    · exact .inl ⟨c, e⟩
    · exact .inr (.inl ⟨_, _, _, e, rfl, rfl⟩)
  | goto target rate profile =>
    dsimp only
    generalize target.toInt - (s.axis a).position.toInt = d
    split
    · exact .inl ⟨_, rfl⟩
    · split
      · exact .inl ⟨_, rfl⟩
      · obtain ⟨c, e⟩ | ⟨legs, e⟩ := checkMotion_cases a rate profile (directionOf (decide (d < 0))) (some d.natAbs) s
        · exact .inl ⟨c, e⟩
        · exact .inr (.inl ⟨_, _, _, e, rfl, rfl⟩)
  | run rate profile negative seekSlow =>
    obtain ⟨c, e⟩ | ⟨legs, e⟩ := checkMotion_cases a rate profile (directionOf negative) none s
    · exact .inl ⟨c, by simp only [e]⟩
    · simp only [e]
      split
      · exact .inl ⟨_, rfl⟩
      · exact .inr (.inl ⟨_, _, _, rfl, rfl, rfl⟩)
  | home limit rate profile negative zero abrupt =>
    obtain ⟨c, e⟩ | ⟨legs, e⟩ := checkMotion_cases a rate profile (directionOf negative) none s
    · exact .inl ⟨c, by simp only [e]⟩
    · simp only [e]
      split
      · exact .inl ⟨_, rfl⟩
      · exact .inr (.inl ⟨_, _, _, rfl, rfl, rfl⟩)
  | dwell time => exact .inr (.inr (.inl ⟨_, rfl, rfl, by simp [Work.kind], rfl⟩))
  | join token members => exact .inr (.inr (.inr ⟨_, _, rfl, rfl⟩))
  | waitInput input wanted timeout =>
    dsimp only
    split
    · exact .inl ⟨_, rfl⟩
    · refine .inr (.inr (.inl ⟨_, rfl, rfl, by simp [Work.kind], ?_⟩))
      by_cases h : timeout = 0 <;> simp [h, Work.timed]

variable {E : Set AxisId} {s t : State} {a : AxisId}

theorem hold_settles (c : HeldCause) (hc : c ≠ .none) (h : Book (insert a E) s) (hw : Away (insert a E) s) (ha : a ∉ E) :
    Settles E s (hold a c s) :=
  setAxis_settles h hw ha (List.suffix_refl _) (by simp [Axis.fits, hc]) (.inr rfl)

theorem becomeIdle_settles (hq : (s.axis a).queue = []) (h : Book (insert a E) s) (hw : Away (insert a E) s)
    (ha : a ∉ E) : Settles E s (becomeIdle a s) :=
  setAxis_settles h hw ha (List.suffix_refl _) (by simp [Axis.fits, hq]) (.inr rfl)

/-- A motion starts, and its first step is issued (R53). -/
theorem startMotion_settles {g : Segment} {rest : List Segment} {d : Direction} {n : Option Nat} {legs : List Leg}
    (hq : (s.axis a).queue = g :: rest) (hm : g.work.motion = true) (hn : n.isSome = g.work.counted)
    (h : Book (insert a E) s) (hw : Away (insert a E) s) (hs : Still E s) (ha : a ∉ E) :
    Settles E s (startMotion a d n legs s) := by
  have h1 : Settles E s (s.setAxis a { (s.axis a).turn d with
      state := .running, heldCause := .none, progress := some (Progress.initial (some d) n legs none) }) := by
    refine setAxis_settles h hw ha ?_ (Axis.fits_running rfl (g := g) (rest := rest) ?_ rfl rfl
      (Progress.fitsRunning_iff.2 ⟨⟨hm, rfl, hn, by simp [Progress.initial], rfl, Nat.zero_le _⟩, rfl, rfl, rfl, rfl, rfl⟩))
      (.inl (by simp))
    · simp [turn_queue]
    · simpa [turn_queue] using hq
  exact h1.trans (issueStep_settles a _ h1.book h1.away (h1.still hs))

/-- An axis whose head segment begins to wait. -/
def Axis.waitBegun (x : Axis) (l : Option Uptime) : Axis :=
  { x with state := .waiting, heldCause := .none, progress := some (Progress.initial none none [] l) }

theorem startWait_eq (a : AxisId) (l : Option Uptime) (s : State) :
    startWait a l s = s.setAxis a ((s.axis a).waitBegun l) := rfl

/-- The row of an axis whose wait has just begun. -/
theorem Axis.fits_waitBegun {x : Axis} {g : Segment} {rest : List Segment} {l : Option Uptime}
    (hq : x.queue = g :: rest) (hm : g.work.motion = false) (hl : l.isSome = g.work.timed) :
    (x.waitBegun l).fits = true :=
  Axis.fits_waiting rfl hq rfl rfl (by simp [Progress.fitsWaiting, Progress.initial, hm, hl, Track.start])

/-- A wait that is no JOIN starts (R53). -/
theorem startWait_settles {g : Segment} {rest : List Segment} {l : Option Uptime} (hq : (s.axis a).queue = g :: rest)
    (hm : g.work.motion = false) (hj : g.work.kind ≠ .join) (hl : l.isSome = g.work.timed) (h : Book (insert a E) s)
    (hw : Away (insert a E) s) (ha : a ∉ E) : Settles E s (startWait a l s) := by
  rw [startWait_eq]
  have h1 : Book (insert a E) (s.setAxis a ((s.axis a).waitBegun l)) :=
    h.setAxis (Set.mem_insert a E) (List.suffix_refl _)
  refine ⟨h1.close ?_ (fun r hr hh => ?_) (fun hj' => ?_), ?_, fun b hb => ?_⟩
  · simpa using Axis.fits_waitBegun hq hm hl
  · simp [hw a (by simp) r hr] at hh
  · rw [State.axis_setAxis_self, Axis.waitingOnJoin_iff] at hj'
    obtain ⟨-, g', p, hact, hk⟩ := hj'
    obtain ⟨-, ⟨rest', hq'⟩, -⟩ := Axis.active_eq_some hact
    obtain ⟨rfl, -⟩ : g = g' ∧ rest = rest' := by simpa [hq, Axis.waitBegun] using hq'
    exact absurd hk hj
  · exact (hw.mono (Set.subset_insert a E)).congr rfl
  · exact State.axis_setAxis_ne s a b _ fun e => ha (e ▸ hb)

/-- A JOIN that has arrived in a record, and waits (R98): the record was sound before, if it was open, and `a` was not
arrived in any. -/
theorem arrival_settles {g : Segment} {rest : List Segment} {token : Nat} {members : AxisMask} {l : List JoinRecord}
    (hq : (s.axis a).queue = g :: rest) (hg : g.work = .join token members)
    (hb : Book (insert a E) { s with joins := l }) (hw : Away E { s with joins := l }) (ha : a ∉ E)
    (hhere : ∃ r ∈ l, r.here a = true)
    (hrec : ∀ r ∈ l, r.here a = true → r.token = token ∧ r.members = members) :
    Settles E s (startWait a none { s with joins := l }) := by
  have hact : ((s.axis a).waitBegun none).active = some (g, Progress.initial none none [] none) :=
    Axis.active_of_busy (.inr (.inl rfl)) hq rfl
  rw [startWait_eq]
  have h1 : Book (insert a E) (({ s with joins := l } : State).setAxis a ((s.axis a).waitBegun none)) :=
    hb.setAxis (Set.mem_insert a E) (List.suffix_refl _)
  refine ⟨h1.close ?_ (fun r hr hh => ?_) (fun _ => hhere), hw.congr rfl,
    fun b hb => State.axis_setAxis_ne _ a b _ fun e => ha (e ▸ hb)⟩
  · rw [State.axis_setAxis_self]
    exact Axis.fits_waitBegun hq (by simp [hg, Work.motion]) (by simp [hg, Work.timed])
  · obtain ⟨ht, hm⟩ := hrec r hr hh
    rw [State.axis_setAxis_self]
    exact Axis.waitsIn_iff.2 ⟨rfl, g, _, hact, by rw [hg, ht, hm]⟩

theorem getLsbD_arrived (m : AxisMask) (a b : AxisId) :
    (m ||| axisBit a).getLsbD b.val = (m.getLsbD b.val || decide (a = b)) := by
  rw [BitVec.getLsbD_or, axisBit_getLsbD]

/-- A mask of two axes names another one. -/
theorem exists_other_member (m : AxisMask) (a : AxisId) (h : 2 ≤ (axesOf m).length) :
    ∃ b : AxisId, m.getLsbD b.val = true ∧ b ≠ a := by
  revert m a; decide

/-- What an arrival can come to (R98 to R100): a new record; an open record of the same members, which it joins or
completes; or a mismatch. -/
theorem arrive_cases (a : AxisId) (token : Nat) (members : AxisMask) (s : State) :
    arrive a token members s = .mismatch ∨
    s.joins.find? (fun r => r.token == token) = none ∧ arrive a token members s =
      .waits { s with joins := s.joins ++ [{ token := token, members := members, arrived := axisBit a }] } ∨
    ∃ r ∈ s.joins, r.token = token ∧ r.members = members ∧
      (r.arrived ||| axisBit a ≠ r.members ∧ arrive a token members s = .waits { s with
          joins := s.joins.map fun q =>
            if q.token == r.token then { q with arrived := q.arrived ||| axisBit a } else q } ∨
        r.arrived ||| axisBit a = r.members ∧ arrive a token members s = .released { s with
          joins := s.joins.filter fun q => q.token != r.token } (axesOf r.members)) := by
  cases hf : s.joins.find? fun r => r.token == token with
  | none => exact .inr (.inl ⟨rfl, by simp [arrive, hf]⟩)
  | some r =>
    have hr := List.mem_of_find?_eq_some hf
    obtain rfl : r.token = token := by simpa using List.find?_some hf
    by_cases hm : r.members = members
    · subst hm
      refine .inr (.inr ⟨r, hr, rfl, rfl, ?_⟩)
      by_cases hfull : r.arrived ||| axisBit a = r.members
      · exact .inr ⟨hfull, by simp [arrive, hf, hfull]⟩
      · exact .inl ⟨hfull, by simp [arrive, hf, hfull]⟩
    · exact .inl (by simp [arrive, hf, hm])

/-- An axis opens a record (R98). -/
theorem open_record {token : Nat} {members : AxisMask} (h : Book (insert a E) s) (hw : Away (insert a E) s)
    (ha : a ∉ E) (hf : s.joins.find? (fun r => r.token == token) = none)
    (hr : (Work.join token members).inRange a = true) :
    Book (insert a E) { s with joins := s.joins ++ [{ token := token, members := members, arrived := axisBit a }] } ∧
      Away E { s with joins := s.joins ++ [{ token := token, members := members, arrived := axisBit a }] } := by
  obtain ⟨hrange, hmem⟩ : (1 ≤ token ∧ token ≤ 63 ∧ 2 ≤ (axesOf members).length) ∧ members.getLsbD a.val = true := by
    simpa [Work.inRange] using hr
  have hhere : ∀ b, JoinRecord.here { token := token, members := members, arrived := axisBit a } b = decide (a = b) :=
    fun b => axisBit_getLsbD a b
  have hnew : token ∉ s.joins.map JoinRecord.token := by
    simpa [List.find?_eq_none] using hf
  refine ⟨⟨h.segments, h.fits, ?_, ?_, ?_, ?_⟩, ?_⟩
  · simpa [List.nodup_append, h.tokens] using fun r hr e => hnew (List.mem_map.2 ⟨r, hr, e⟩)
  · intro r hr
    rcases List.mem_append.1 hr with hr | hr
    · exact h.sound r hr
    · obtain rfl := List.mem_singleton.1 hr
      refine JoinRecord.sound_iff.2 ⟨hrange, ⟨a, by simp [hhere]⟩, fun b hb => ?_, ?_⟩
      · rw [hhere] at hb
        obtain rfl := of_decide_eq_true hb
        exact hmem
      · obtain ⟨b, hb, hba⟩ := exists_other_member members a hrange.2.2
        exact ⟨b, hb, by rw [hhere]; exact decide_eq_false fun e => hba e.symm⟩
  · intro b hb r hr hh
    rcases List.mem_append.1 hr with hr | hr
    · exact h.waits b hb r hr hh
    · obtain rfl := List.mem_singleton.1 hr
      rw [hhere] at hh
      exact absurd (by simp [of_decide_eq_true hh]) hb
  · intro b hb hj
    obtain ⟨r, hr, hh⟩ := h.arrived b hb hj
    exact ⟨r, List.mem_append_left _ hr, hh⟩
  · intro b hb r hr
    rcases List.mem_append.1 hr with hr | hr
    · exact hw b (by simp [hb]) r hr
    · obtain rfl := List.mem_singleton.1 hr
      rw [hhere]
      exact decide_eq_false fun e => ha (e ▸ hb)

/-- An axis arrives in an open record that it does not complete (R98). -/
theorem join_record {r : JoinRecord} (h : Book (insert a E) s) (hw : Away (insert a E) s) (ha : a ∉ E)
    (hr : r ∈ s.joins) (hm : r.member a = true) (hn : r.arrived ||| axisBit a ≠ r.members) :
    Book (insert a E) { s with joins := s.joins.map fun q =>
        if q.token == r.token then { q with arrived := q.arrived ||| axisBit a } else q } ∧
      Away E { s with joins := s.joins.map fun q =>
        if q.token == r.token then { q with arrived := q.arrived ||| axisBit a } else q } := by
  have hmem : ∀ q ∈ s.joins.map (fun q =>
      if q.token == r.token then { q with arrived := q.arrived ||| axisBit a } else q),
      q ∈ s.joins ∨ q = { r with arrived := r.arrived ||| axisBit a } := by
    intro q hq
    obtain ⟨q', hq', e⟩ := List.mem_map.1 hq
    split at e
    · next ht =>
      obtain rfl := List.inj_on_of_nodup_map h.tokens hq' hr (by simpa using ht)
      exact .inr e.symm
    · exact .inl (e ▸ hq')
  have hhere : ∀ b, JoinRecord.here { r with arrived := r.arrived ||| axisBit a } b = (r.here b || decide (a = b)) :=
    fun b => getLsbD_arrived _ a b
  have htok : (s.joins.map fun q => if q.token == r.token then { q with arrived := q.arrived ||| axisBit a } else q).map
      JoinRecord.token = s.joins.map JoinRecord.token := by
    rw [List.map_map]
    refine List.map_congr_left fun q _ => ?_
    simp only [Function.comp]
    split <;> rfl
  refine ⟨⟨h.segments, h.fits, by rw [htok]; exact h.tokens, ?_, ?_, ?_⟩, ?_⟩
  · intro q hq
    rcases hmem q hq with hq | rfl
    · exact h.sound q hq
    · obtain ⟨hrange, ⟨b, hb⟩, hs, -⟩ := JoinRecord.sound_iff.1 (h.sound r hr)
      refine JoinRecord.sound_iff.2 ⟨hrange, ⟨b, by rw [hhere, hb]; rfl⟩, fun c hc => ?_, ?_⟩
      · rw [hhere, Bool.or_eq_true] at hc
        rcases hc with hc | hc
        · exact hs c hc
        · rw [← of_decide_eq_true hc]; exact hm
      · rw [ne_eq, mask_eq_iff, not_forall] at hn
        obtain ⟨c, hc⟩ := hn
        rw [getLsbD_arrived] at hc
        have hin : (r.here c || decide (a = c)) = true → r.member c = true := by
          rw [Bool.or_eq_true]
          rintro (h | h)
          · exact hs c h
          · rw [← of_decide_eq_true h]; exact hm
        refine ⟨c, ?_⟩
        rw [hhere]
        unfold JoinRecord.member JoinRecord.here at *
        cases hx : (r.arrived.getLsbD c.val || decide (a = c))
        · cases hy : r.members.getLsbD c.val
          · rw [hx, hy] at hc; exact absurd rfl hc
          · exact ⟨rfl, rfl⟩
        · rw [hx, hin hx] at hc; exact absurd rfl hc
  · intro b hb q hq hh
    rcases hmem q hq with hq | rfl
    · exact h.waits b hb q hq hh
    · rw [hhere, Bool.or_eq_true] at hh
      rcases hh with hh | hh
      · exact h.waits b hb r hr hh
      · exact absurd (by simp [of_decide_eq_true hh]) hb
  · intro b hb hj
    obtain ⟨q, hq, hh⟩ := h.arrived b hb hj
    refine ⟨_, List.mem_map_of_mem hq, ?_⟩
    split
    · have := getLsbD_arrived q.arrived a b
      unfold JoinRecord.here at hh ⊢
      rw [this, hh]
      rfl
    · exact hh
  · intro b hb q hq
    rcases hmem q hq with hq | rfl
    · exact hw b (by simp [hb]) q hq
    · rw [hhere, hw b (by simp [hb]) r hr, Bool.false_or]
      exact decide_eq_false fun e => ha (e ▸ hb)

end Sys2Proof.Machine
end

section
/-! Activation, with every chain of it (R54, R100): its fuel is above the number of queued segments, so it settles its
axis. -/

namespace Sys2Proof.Machine

/-! ### The number of queued segments -/

theorem State.queued_eq_sum (s : State) : s.queued = ∑ a : AxisId, (s.axis a).queue.length := by
  rw [Fin.sum_univ_four]; rfl

/-- Queues that only lose segments hold no more of them. -/
theorem queued_le_of_suffix {s t : State} (h : ∀ a, (t.axis a).queue <:+ (s.axis a).queue) : t.queued ≤ s.queued := by
  rw [State.queued_eq_sum, State.queued_eq_sum]
  exact Finset.sum_le_sum fun a _ => (h a).length_le

theorem queued_lt_of_suffix {s t : State} (h : ∀ a, (t.axis a).queue <:+ (s.axis a).queue) (a : AxisId)
    (ha : (t.axis a).queue.length < (s.axis a).queue.length) : t.queued < s.queued := by
  rw [State.queued_eq_sum, State.queued_eq_sum]
  exact Finset.sum_lt_sum (fun a _ => (h a).length_le) ⟨a, Finset.mem_univ a, ha⟩

/-- The end of a segment takes one at least out of the pool (R54). -/
theorem closeSegment_queued {a : AxisId} (c : Cause) {s : State} (h : (s.axis a).queue ≠ []) :
    (closeSegment a c s).queued < s.queued := by
  refine queued_lt_of_suffix (closeSegment_frame a c s).queue a ?_
  obtain ⟨h0, -⟩ | ⟨g, rest, hq, e⟩ := closeSegment_spec a c s
  · exact absurd h0 h
  · have hl : ((closeSegment a c s).axis a).queue = if (s.axis a).flushPending then [] else rest := by
      rw [e]; dsimp only; split <;> simp
    rw [hl, hq]
    split <;> simp

/-! ### The release of a join -/

variable {E F : Set AxisId} {s : State} {a : AxisId}

/-- The JOINs of the members of a released record end one after the other (R100). -/
theorem foldl_closeSegment (c : Cause) (l : List AxisId) (hn : l.Nodup) (s : State) (h : Book F s)
    (hl : ∀ b ∈ l, b ∈ F ∧ (s.axis b).queue ≠ []) :
    let t := l.foldl (fun s b => closeSegment b c s) s
    Book F t ∧ t.joins = s.joins ∧ (∀ b ∉ l, t.axis b = s.axis b) ∧ (∀ b ∈ l, (t.axis b).progress = none) ∧
      (l ≠ [] → t.queued < s.queued) := by
  induction l generalizing s with
  | nil => exact ⟨h, rfl, fun _ _ => rfl, fun _ hb => by simp at hb, fun e => absurd rfl e⟩
  | cons b l ih =>
    obtain ⟨hb, hn⟩ := List.nodup_cons.1 hn
    have other : ∀ d, d ≠ b → (closeSegment b c s).axis d = s.axis d := fun d hd => closeSegment_other b d c s hd
    obtain ⟨hbook, hj, hsame, hprog, -⟩ := ih hn (closeSegment b c s) (closeSegment_book c (hl b (by simp)).1 h)
      fun d hd => by
        rw [other d fun e => hb (e ▸ hd)]
        exact hl d (by simp [hd])
    refine ⟨hbook, hj.trans (closeSegment_joins b c s), fun d hd => ?_, fun d hd => ?_, fun _ => ?_⟩
    · rw [List.mem_cons, not_or] at hd
      exact (hsame d hd.2).trans (other d hd.1)
    · rcases List.mem_cons.1 hd with rfl | hd
      · exact (congrArg Axis.progress (hsame d hb)).trans (closeSegment_progress c (hl d (by simp)).2)
      · exact hprog d hd
    · exact lt_of_le_of_lt
        (queued_le_of_suffix (foldl_stopFrame _ (fun s b => closeSegment_frame b c s) l _).queue)
        (closeSegment_queued c (hl b (by simp)).2)

/-- What an activation does, with fuel above the number of queued segments (R54): the unsettled axis is settled. -/
def ActivateSettles (fuel : Nat) : Prop :=
  ∀ (E : Set AxisId) (a : AxisId) (s : State), Book (insert a E) s → Away (insert a E) s → Still E s → a ∉ E →
    s.queued < fuel → Settles E s (activate fuel a s)

/-- The members of a released record activate their next segments one after the other (R100). -/
theorem foldl_activate_settles {fuel : Nat} (ih : ActivateSettles fuel) (l : List AxisId) (hn : l.Nodup) (s : State)
    (h : Book ({b | b ∈ l} ∪ E) s) (hw : Away ({b | b ∈ l} ∪ E) s) (hs : Still ({b | b ∈ l} ∪ E) s)
    (hl : ∀ b ∈ l, b ∉ E) (hf : s.queued < fuel) : Settles E s (l.foldl (fun s b => activate fuel b s) s) := by
  induction l generalizing s with
  | nil => simpa using Settles.refl (by simpa using h) (by simpa using hw)
  | cons b l ihl =>
    obtain ⟨hb, hn⟩ := List.nodup_cons.1 hn
    have e : ({c | c ∈ b :: l} ∪ E : Set AxisId) = insert b ({c | c ∈ l} ∪ E) := by ext c; simp [or_assoc]
    rw [e] at h hw hs
    have hsub := Set.subset_insert b ({c | c ∈ l} ∪ E : Set AxisId)
    have hbE : b ∉ ({c | c ∈ l} ∪ E : Set AxisId) := by simpa using ⟨hb, hl b (by simp)⟩
    have h1 := ih _ b s h hw (fun c hc => hs c (hsub hc)) hbE hf
    have h2 := ihl hn _ h1.book h1.away (h1.still fun c hc => hs c (hsub hc)) (fun c hc => hl c (by simp [hc]))
      (lt_of_le_of_lt (queued_le_of_suffix (activate_frame fuel b s).queue) hf)
    exact ⟨h2.book, h2.away, fun c hc => (h2.same c hc).trans (h1.same c (by simp [hc]))⟩

/-- The members of a record that its last arrival `a` completes: `a`, and those that were arrived (R98, R100). -/
theorem mem_going {r : JoinRecord} (h : Book (insert a E) s) (hw : Away (insert a E) s) (hr : r ∈ s.joins)
    (hfull : r.arrived ||| axisBit a = r.members) (b : AxisId) :
    b ∈ (axesOf r.members).filter (fun b => b == a || (s.axis b).waitingOnJoin) ↔ r.here b = true ∨ b = a := by
  have hmem : b ∈ axesOf r.members ↔ r.here b = true ∨ b = a := by
    rw [mem_axesOf, ← hfull, getLsbD_arrived, Bool.or_eq_true, decide_eq_true_eq, eq_comm (a := a)]
    rfl
  rw [List.mem_filter, hmem]
  refine ⟨fun hb => hb.1, fun hb => ⟨hb, ?_⟩⟩
  rcases hb with hb | rfl
  · have hE : b ∉ insert a E := fun hE => by simp [hw b hE r hr] at hb
    simp [Axis.onJoin_of_waitsIn (h.waits b hE r hr hb)]
  · simp

/-- The release of a join (R100, R101): the record is freed, the JOIN of every member ends, and each member's next segment
is activated. -/
theorem release_settles {fuel : Nat} (ih : ActivateSettles fuel) {r : JoinRecord} (h : Book (insert a E) s)
    (hw : Away (insert a E) s) (hs : Still E s) (ha : a ∉ E) (hq : (s.axis a).queue ≠ []) (hf : s.queued < fuel + 1)
    (hr : r ∈ s.joins) (hfull : r.arrived ||| axisBit a = r.members) :
    let s1 := { s with joins := s.joins.filter fun q => q.token != r.token }
    let going := (axesOf r.members).filter fun b => b == a || (s.axis b).waitingOnJoin
    Settles E s (going.foldl (fun s b => activate fuel b s) (going.foldl (fun s b => closeSegment b .complete s) s1)) := by
  intro s1 going
  have hmem : ∀ b, b ∈ going ↔ r.here b = true ∨ b = a := mem_going h hw hr hfull
  have hset : ({b | b ∈ going} ∪ E : Set AxisId) = {b | r.here b = true} ∪ insert a E := by
    ext b; simp [hmem, or_assoc, or_left_comm]
  obtain ⟨hb1, hw1⟩ := free_record h hw hr
  rw [← hset] at hb1 hw1
  have hnot : ∀ b ∈ going, b ∉ E := by
    intro b hb hE
    rcases (hmem b).1 hb with hh | rfl
    · simp [hw b (by simp [hE]) r hr] at hh
    · exact ha hE
  have hn : going.Nodup := (nodup_axesOf r.members).filter _
  obtain ⟨hb2, hj2, hsame, hprog, hlt⟩ := foldl_closeSegment .complete going hn s1 hb1 fun b hb => by
    refine ⟨.inl hb, ?_⟩
    rcases (hmem b).1 hb with hh | rfl
    · obtain ⟨-, g, p, hact, -⟩ := Axis.waitsIn_iff.1
        (h.waits b (fun hE => by simp [hw b hE r hr] at hh) r hr hh)
      obtain ⟨-, ⟨rest, hq⟩, -⟩ := Axis.active_eq_some hact
      change (s.axis b).queue ≠ []
      simp [hq]
    · exact hq
  have hlt' := hlt (List.ne_nil_of_mem ((hmem a).2 (.inr rfl)))
  have hq1 : s1.queued = s.queued := rfl
  have hE2 : ∀ b ∈ E, ((going.foldl (fun s b => closeSegment b .complete s) s1).axis b) = s.axis b :=
    fun b hb => hsame b fun hg => hnot b hg hb
  have h3 := foldl_activate_settles ih going hn _ hb2 (hw1.congr hj2) (fun b hb => by
    rcases hb with hb | hb
    · exact hprog b hb
    · rw [hE2 b hb]; exact hs b hb) hnot (by omega)
  exact ⟨h3.book, h3.away, fun b hb => (h3.same b hb).trans (hE2 b hb)⟩

/-- Every activation with enough fuel settles its axis (R48 to R54, R98 to R101). -/
theorem activate_settles (fuel : Nat) : ActivateSettles fuel := by
  induction fuel with
  | zero => exact fun _ _ s _ _ _ _ hf => absurd hf (Nat.not_lt_zero _)
  | succ fuel ih =>
    intro E a s h hw hs ha hf
    unfold activate
    split
    · next hq => exact becomeIdle_settles hq h hw ha
    · next g rest hq =>
      have hne : (s.axis a).queue ≠ [] := by simp [hq]
      split
      · exact hold_settles _ (by simp) h hw ha
      · split
        · exact hold_settles _ (by simp) h hw ha
        · obtain ⟨c, e⟩ | ⟨d, n, legs, e, hm, hn⟩ | ⟨l, e, hm, hj, hl⟩ | ⟨token, members, e, hg⟩ :=
            activationCheck_cases a g s
          · rw [e]
            dsimp only
            split
            · have hc : Settles E s (activate fuel a (closeSegment a c s)) := by
                have same : ∀ b ∈ E, (closeSegment a c s).axis b = s.axis b :=
                  fun b hb => closeSegment_other a b c s fun e => ha (e ▸ hb)
                have hlt := closeSegment_queued c hne
                have h1 := ih E a _ (closeSegment_book c (Set.mem_insert a E) h)
                  (hw.congr (closeSegment_joins a c s)) (hs.congr same) ha (by omega)
                exact ⟨h1.book, h1.away, fun b hb => (h1.same b hb).trans (same b hb)⟩
              exact hc
            · exact endHeld_settles c h (hw.mono (Set.subset_insert a E)) ha
          · rw [e]
            exact startMotion_settles hq hm hn h hw hs ha
          · rw [e]
            exact startWait_settles hq hm hj hl h hw ha
          · rw [e]
            have hrange : (Work.join token members).inRange a = true := by
              have := List.all_eq_true.1 (h.segments a) g (by simp [hq])
              rwa [hg] at this
            obtain e | ⟨hnone, e⟩ | ⟨r, hr, rfl, rfl, ⟨hfull, e⟩ | ⟨hfull, e⟩⟩ := arrive_cases a token members s
            · simp only [e]
              exact endHeld_settles _ h (hw.mono (Set.subset_insert a E)) ha
            · simp only [e]
              obtain ⟨hb, hw'⟩ := open_record h hw ha hnone hrange
              refine arrival_settles hq hg hb hw' ha ?_ fun r hr hh => ?_
              · exact ⟨_, List.mem_append_right _ (List.mem_singleton_self _), by simp [JoinRecord.here, axisBit]⟩
              · rcases List.mem_append.1 hr with hr | hr
                · simp [hw a (by simp) r hr] at hh
                · simp [List.mem_singleton.1 hr]
            · simp only [e]
              have hmem : r.member a = true := (Bool.and_eq_true_iff.1 hrange).2
              obtain ⟨hb, hw'⟩ := join_record h hw ha hr hmem hfull
              refine arrival_settles hq hg hb hw' ha ?_ fun q hq' hh => ?_
              · refine ⟨_, List.mem_map_of_mem hr, ?_⟩
                simp [JoinRecord.here, axisBit]
              · obtain ⟨q', hq'', rfl⟩ := List.mem_map.1 hq'
                split
                · next ht =>
                  obtain rfl := List.inj_on_of_nodup_map h.tokens hq'' hr (by simpa using ht)
                  exact ⟨rfl, rfl⟩
                · next ht =>
                  rw [if_neg ht] at hh
                  simp [hw a (by simp) q' hq''] at hh
            · simp only [e]
              exact release_settles ih h hw hs ha hne hf hr hfull

end Sys2Proof.Machine
end

section
/-! Ends that lead on, and the changes of accepted levels and of the input configuration (R78 to R84, R135, R140): each keeps
the book. -/

namespace Sys2Proof.Machine

variable {E : Set AxisId} {s t : State} {a : AxisId}

/-- The active segment of an axis ends with any cause (R59, R60). -/
theorem endSegment_settles (c : Cause) (h : Book (insert a E) s) (hw : Away E s) (hs : Still E s) (ha : a ∉ E) :
    Settles E s (endSegment a c s) := by
  unfold endSegment
  split
  · have h1 := notifyJoins_settles c (closeSegment_book c (Set.mem_insert a E) h) (hw.congr (closeSegment_joins a c s))
    have same : ∀ b ∈ E, (notifyJoins a c (closeSegment a c s)).axis b = s.axis b := fun b hb =>
      (h1.same b (by simp [hb])).trans (closeSegment_other a b c s fun e => ha (e ▸ hb))
    have h2 := activate_settles _ E a _ h1.book h1.away (hs.congr same) ha (Nat.lt_succ_self _)
    exact ⟨h2.book, h2.away, fun b hb => (h2.same b hb).trans (same b hb)⟩
  · exact endHeld_settles c h hw ha

/-! ### The whole book -/

theorem away_empty (s : State) : Away ∅ s := fun _ ha => absurd ha (Set.notMem_empty _)

theorem still_empty (s : State) : Still ∅ s := fun _ ha => absurd ha (Set.notMem_empty _)

theorem Book.active_stoppable (h : Book ∅ s) {g : Segment} {p : Progress} (hact : (s.axis a).active = some (g, p)) :
    (s.axis a).Stoppable := Axis.stoppable_of_fits (h.fits a (Set.notMem_empty a)) hact

theorem Book.unsettle (h : Book ∅ s) (a : AxisId) : Book (insert a ∅) s := h.mono (Set.empty_subset _)

/-- An operation that settles every axis keeps the book. -/
theorem KeepsBook.book {f : State → State} (hf : KeepsBook ∅ f) (h : Book ∅ s) : Book ∅ (f s) :=
  (hf s h (away_empty s) (still_empty s)).book

theorem foldl_book {α : Type} (f : State → α → State) (hf : ∀ s x, Book ∅ s → Book ∅ (f s x)) (l : List α) (s : State)
    (h : Book ∅ s) : Book ∅ (l.foldl f s) :=
  List.foldlRecOn l f h fun s h x _ => hf s x h

theorem stopHeld_book (m : StopMode) {c : Cause} {f : Bool} (hc : c.normal = true → f = false) (h : Book ∅ s) :
    Book ∅ (stopHeld a c m f s) :=
  (stopHeld_settles m h (away_empty s) (still_empty s) hc).book

theorem endSegment_book (c : Cause) (h : Book (insert a ∅) s) : Book ∅ (endSegment a c s) :=
  (endSegment_settles c h (away_empty s) (still_empty s) (Set.notMem_empty a)).book

theorem endHeld_book (c : Cause) (h : Book (insert a ∅) s) : Book ∅ (endHeld a c s) :=
  (endHeld_settles c h (away_empty s) (Set.notMem_empty a)).book

/-- A stop request of any cause, of an axis whose record may be changed but for its segment (R66, R87). -/
theorem stopSegment_book (m : StopMode) (c : Cause) (h : Book (insert a ∅) s) (hx : (s.axis a).Stoppable)
    (hn : (s.axis a).state ≠ .waiting → Away {a} s) : Book ∅ (stopSegment a c m false s) :=
  (applyStop_settles m (fun c t hb hw _ _ => endSegment_settles c hb hw (still_empty t) (Set.notMem_empty a)) h
    (away_empty s) (Set.notMem_empty a) hx hn fun _ => rfl).book

/-- A settled axis that does not wait takes another row in which it does not wait. -/
theorem Book.setAxis_moving (h : Book ∅ s) (hs : (s.axis a).state ≠ .waiting) {x : Axis}
    (hq : x.queue <:+ (s.axis a).queue) (hf : x.fits = true) (hx : x.state ≠ .waiting ∨ x.progress = none) :
    Book ∅ (s.setAxis a x) :=
  (Machine.setAxis_moving h (away_empty s) (Set.notMem_empty a) hs hq hf hx).book

/-- A write of one axis that keeps its state and its active segment. -/
theorem Book.setAxis_alike (h : Book ∅ s) {x : Axis} (hq : ∀ g ∈ x.queue, g.work.inRange a = true)
    (hf : x.fits = true) (hs : x.state = (s.axis a).state) (hact : x.active = (s.axis a).active) :
    Book ∅ (s.setAxis a x) := by
  have hw : ∀ r, x.waitsIn r = (s.axis a).waitsIn r := fun r => by simp [Axis.waitsIn, hs, hact]
  have hj : x.waitingOnJoin = (s.axis a).waitingOnJoin := by simp [Axis.waitingOnJoin, hs, hact]
  refine ⟨fun b => ?_, fun b hb => ?_, h.tokens, h.sound, fun b hb => ?_, fun b hb => ?_⟩
  all_goals rw [State.axis_setAxis]; split
  · next e => rw [e]; exact List.all_eq_true.2 hq
  · exact h.segments b
  · exact hf
  · exact h.fits b hb
  · next e => intro r; rw [hw, e]; exact h.waits a (Set.notMem_empty a) r
  · exact h.waits b hb
  · next e => rw [hj, e]; exact h.arrived a (Set.notMem_empty a)
  · exact h.arrived b hb

/-- A write of one axis that keeps its state, its held cause, its queue and its progress record. -/
theorem Book.setAxis_same (h : Book ∅ s) {x : Axis} (hs : x.state = (s.axis a).state)
    (hc : x.heldCause = (s.axis a).heldCause) (hq : x.queue = (s.axis a).queue)
    (hp : x.progress = (s.axis a).progress) : Book ∅ (s.setAxis a x) := by
  refine h.setAxis_alike ?_ ?_ hs ?_
  · rw [hq]; exact List.all_eq_true.1 (h.segments a)
  · have := h.fits a (Set.notMem_empty a)
    simpa [Axis.fits, hs, hc, hq, hp] using this
  · simp [Axis.active, hs, hq, hp]

theorem hold_book {c : HeldCause} (hc : c ≠ .none) (hs : (s.axis a).state ≠ .waiting) (h : Book ∅ s) :
    Book ∅ (hold a c s) :=
  h.setAxis_moving hs (List.suffix_refl _) (by simp [Axis.fits, hc]) (.inr rfl)

theorem becomeIdle_book (hq : (s.axis a).queue = []) (hs : (s.axis a).state ≠ .waiting) (h : Book ∅ s) :
    Book ∅ (becomeIdle a s) :=
  h.setAxis_moving hs (List.suffix_refl _) (by simp [Axis.fits, hq]) (.inr rfl)

/-! ### Changes of accepted levels (R137) -/

theorem limitChanged_book (a : AxisId) (d : Direction) (h : Book ∅ s) : Book ∅ (limitChanged a d s) := by
  unfold limitChanged
  split
  · split
    · exact stopHeld_book _ (by simp) h
    · exact h
  · exact h

theorem slowChanged_book (a : AxisId) (h : Book ∅ s) : Book ∅ (slowChanged a s) := by
  unfold slowChanged
  split
  · next hact =>
    split
    · split
      · exact stopSegment_book _ _ (h.unsettle a) (h.active_stoppable hact) (h.away_of_not_waiting (Set.notMem_empty a))
      · split
        · exact stopHeld_book _ (by simp) h
        · exact h
    · exact h
  · exact h

/-- The home event (R87, R88): home detected is set first, which a RUNNING axis has no row for, and the HOMED request
settles the axis. -/
theorem homeChanged_book (a : AxisId) (h : Book ∅ s) : Book ∅ (homeChanged a s) := by
  unfold homeChanged
  split
  · next g p hact =>
    split
    · next hg =>
      split
      · exact h
      · obtain ⟨hs, ⟨rest, hq⟩, hp⟩ := Axis.active_eq_some hact
        obtain ⟨hc, hrow⟩ := Axis.fits_active (h.fits a (Set.notMem_empty a)) hact
        have hhome : g.work.isHome = true := by rw [hg]; rfl
        refine stopSegment_book _ _ ((h.unsettle a).setAxis (Set.mem_insert a ∅) ?_) ?_ ?_
        · exact List.suffix_refl _
        · rw [State.axis_setAxis_self]
          refine ⟨hc, g, _, Axis.active_of_busy hs hq rfl, ?_⟩
          rcases hrow with ⟨hs, hf⟩ | ⟨hs, hf⟩ | ⟨hs, hf⟩
          · obtain ⟨⟨hd, hcnt, hm, -, hl, hst⟩, -, -, -, hf, -⟩ := Progress.fitsRunning_iff.1 hf
            exact .inl ⟨hs, ⟨hd, hcnt, hm, fun _ => hhome, hl, hst⟩, hf⟩
          · exact .inr (.inl hs)
          · obtain ⟨⟨hd, hcnt, hm, -, hl, hst⟩, hwalk⟩ := Progress.fitsStopping_iff.1 hf
            exact .inr (.inr ⟨hs, Progress.fitsStopping_iff.2 ⟨⟨hd, hcnt, hm, fun _ => hhome, hl, hst⟩, hwalk⟩⟩)
        · rw [State.axis_setAxis_self]
          exact fun hs => h.away_of_not_waiting (Set.notMem_empty a) hs
    · exact h
  · exact h

theorem alarmChanged_book (a : AxisId) (h : Book ∅ s) : Book ∅ (alarmChanged a s) := by
  unfold alarmChanged
  split
  case h_1 | h_2 | h_3 => exact stopHeld_book _ (by simp) h
  case h_4 hs | h_5 hs => exact hold_book (by simp) (by simp [hs]) h
  case h_6 => exact h

/-- ESTOP leaves an axis at rest DISABLED or HELD (R83). -/
theorem leaveByEstop_book (hs : (s.axis a).state ≠ .waiting) (h : Book ∅ s) : Book ∅ (leaveByEstop a s) := by
  refine h.setAxis_moving hs (List.suffix_refl _) ?_ (.inr rfl)
  cases he : (s.axis a).config.estopDisables <;> simp [Axis.fits]

theorem estopAtAxis_book (a : AxisId) (h : Book ∅ s) : Book ∅ (estopAtAxis a s) := by
  unfold estopAtAxis
  split
  case h_1 | h_2 | h_3 => exact stopHeld_book _ (by simp) h
  case h_4 hs | h_5 hs => exact leaveByEstop_book (by simp [hs]) h
  case h_6 => exact h

theorem generalAtAxis_book (i : Fin 4) (level : Bool) (a : AxisId) (h : Book ∅ s) :
    Book ∅ (generalAtAxis i level a s) := by
  unfold generalAtAxis
  split
  · split
    · split
      · exact endSegment_book _ (h.unsettle a)
      · exact h
    · exact h
  · exact h

theorem handOn_book (i : InputId) (level : Bool) (h : Book ∅ s) : Book ∅ (handOn i level s) := by
  have drawn : ∀ {α : Type} (l : List α), Book ∅ (drawOrder l s).2 := fun l => by
    obtain ⟨n, e⟩ := (drawOrder_spec l s).2
    rw [e]
    exact h.of_eq rfl rfl
  unfold handOn
  split
  · split
    · split
      · exact limitChanged_book _ _ h
      · exact limitChanged_book _ _ h
      · exact slowChanged_book _ h
      · exact homeChanged_book _ h
      · exact alarmChanged_book _ h
    · exact h
  · refine foldl_book _ (fun s r h => ?_) _ _ (drawn _)
    cases r with
    | engine a => exact generalAtAxis_book _ _ a h
    | queue => exact h.of_eq rfl rfl
    | outputs => exact h
  · split
    · refine foldl_book _ (fun s r h => ?_) _ _ (drawn _)
      cases r with
      | engine a => exact estopAtAxis_book a h
      | queue => exact h.of_eq rfl rfl
      | outputs => exact h
    · exact h.of_eq rfl rfl

theorem setInput_book (i : InputId) (r : InputRecord) (h : Book ∅ s) : Book ∅ (s.setInput i r) :=
  h.of_eq (State.setInput_axes s i r) (State.setInput_joins s i r)

theorem acceptRaw_book (i : InputId) (h : Book ∅ s) : Book ∅ (acceptRaw i s) :=
  handOn_book _ _ (setInput_book _ _ h)

theorem filterRaw_book (i : InputId) (h : Book ∅ s) : Book ∅ (filterRaw i s) := by
  unfold filterRaw
  dsimp only
  split
  · exact setInput_book _ _ h
  · split
    · exact acceptRaw_book i h
    · exact setInput_book _ _ h

theorem pinTakes_book (i : InputId) (high : Bool) (h : Book ∅ s) : Book ∅ (pinTakes i high s) :=
  filterRaw_book i (setInput_book _ _ h)

theorem restartFilter_book (i : InputId) (h : Book ∅ s) : Book ∅ (restartFilter i s) := by
  unfold restartFilter
  dsimp only
  split
  · exact h
  · split
    · exact acceptRaw_book i h
    · exact setInput_book _ _ h

theorem reconfigure_book (i : InputId) (changed high : Bool) (h : Book ∅ s) : Book ∅ (reconfigure i changed high s) := by
  unfold reconfigure
  extract_lets t
  have ht : Book ∅ t := by
    unfold t
    split
    · exact restartFilter_book i h
    · exact h
  split
  · exact ht
  · exact filterRaw_book i (setInput_book _ _ ht)

/-- SET_INPUT_CONFIG replaces the filters and flags, and then treats one input after the other (R140): what all of these
keep, it keeps. -/
theorem applyInputConfig_keeps {P : State → Prop} (c : InputConfig) (s : State)
    (h0 : P { s with inputs := { s.inputs with
      axisFilter := c.axisFilter, generalFilter := c.generalFilter, reportOnChange := c.reportOnChange } })
    (hn : ∀ t n, P t → P { t with freeCount := n }) (hr : ∀ t i changed high, P t → P (reconfigure i changed high t)) :
    P (applyInputConfig c s) := by
  have hfold : ∀ (l : List InputId) (t : State), P t → P (l.foldl
      (fun t i => reconfigure i (s.filterTime i != c.filterTime i) (c.activeHigh i) t) t) :=
    fun l t h => List.foldlRecOn l _ h fun t h i _ => hr t i _ _ h
  unfold applyInputConfig
  extract_lets changed quiet loud inputs s1 s2
  obtain ⟨n, e⟩ := (drawOrder_spec loud s2).2
  generalize drawOrder loud s2 = d at e
  obtain ⟨order, s3⟩ := d
  obtain rfl : s3 = _ := e
  exact hfold order _ (hn _ n (hfold quiet _ h0))

theorem applyInputConfig_book (c : InputConfig) (h : Book ∅ s) : Book ∅ (applyInputConfig c s) :=
  applyInputConfig_keeps c s (h.of_eq rfl rfl) (fun _ _ h => h.of_eq rfl rfl) fun _ i _ _ h => reconfigure_book i _ _ h

end Sys2Proof.Machine
end

section
/-! The settings of the blocks (O3), what is left alone by a command that acts on no axis, and what a frame does to the
line before its order is looked at. -/

namespace Sys2Proof.Machine

/-! ### Settings, and the commands they belong to -/

/-- The settings of the blocks, and the queues, as to what changes them. -/
inductive Setting where
  | config | queues | profiles | uptime | link | inputs | fields | outputs | pins

/-- A setting is as it was: the axis configurations (R38), the queues but for segments that have left (R6), the profiles
(R20), the uptime (R142), link timeout and attention (R163), polarities, filters and flags of the inputs (R140), the
triggers' fields (R109), output polarities and link-loss behaviours (R124, R125), the levels of the input pins (R134). -/
def Kept (s t : State) : Setting → Prop
  | .config => ∀ a, (t.axis a).config = (s.axis a).config
  | .queues => ∀ a, (t.axis a).queue <:+ (s.axis a).queue
  | .profiles => t.profiles = s.profiles
  | .uptime => t.uptime = s.uptime
  | .link => t.line.timeout = s.line.timeout ∧ t.reports.attention = s.reports.attention
  | .inputs => (∀ j, (t.input j).activeHigh = (s.input j).activeHigh) ∧ t.inputs.axisFilter = s.inputs.axisFilter ∧
      t.inputs.generalFilter = s.inputs.generalFilter ∧ t.inputs.reportOnChange = s.inputs.reportOnChange
  | .fields => ∀ j, (t.trigger j).fields = (s.trigger j).fields
  | .outputs => (∀ n, (t.output n).activeLow = (s.output n).activeLow ∧ (t.output n).lossLevel = (s.output n).lossLevel) ∧
      ∀ c, (t.channel c).offOnLoss = (s.channel c).offOnLoss
  | .pins => ∀ j, (t.input j).pinHigh = (s.input j).pinHigh

/-- The setting that a command is there to change. -/
def changedBy : Instr → Option Setting
  | .setAxis _ _ => some .config
  | .queueSegment _ _ => some .queues
  | .defineProfile _ _ | .dropProfile _ _ => some .profiles
  | .tick => some .uptime
  | .setLink _ _ => some .link
  | .setInputConfig _ _ => some .inputs
  | .setTrigger _ _ | .clearTriggers _ _ => some .fields
  | .setOutputConfig _ _ => some .outputs
  | .rawChange _ _ => some .pins
  | _ => none

/-- Every setting but `o` is as it was. -/
def KeepsBut (o : Option Setting) (s t : State) : Prop := ∀ x, o ≠ some x → Kept s t x

theorem Kept.refl (s : State) (x : Setting) : Kept s s x := by
  cases x with
  | config => exact fun _ => rfl
  | queues => exact fun _ => List.suffix_refl _
  | profiles => exact rfl
  | uptime => exact rfl
  | link => exact ⟨rfl, rfl⟩
  | inputs => exact ⟨fun _ => rfl, rfl, rfl, rfl⟩
  | fields => exact fun _ => rfl
  | outputs => exact ⟨fun _ => ⟨rfl, rfl⟩, fun _ => rfl⟩
  | pins => exact fun _ => rfl

theorem Kept.trans {s t u : State} {x : Setting} (h : Kept s t x) (k : Kept t u x) : Kept s u x := by
  cases x with
  | config => exact fun a => (k a).trans (h a)
  | queues => exact fun a => (k a).trans (h a)
  | profiles => exact Eq.trans k h
  | uptime => exact Eq.trans k h
  | link => exact ⟨k.1.trans h.1, k.2.trans h.2⟩
  | inputs =>
    obtain ⟨h1, h2, h3, h4⟩ := h
    obtain ⟨k1, k2, k3, k4⟩ := k
    exact ⟨fun j => (k1 j).trans (h1 j), k2.trans h2, k3.trans h3, k4.trans h4⟩
  | fields => exact fun j => (k j).trans (h j)
  | outputs => exact ⟨fun n => ⟨(k.1 n).1.trans (h.1 n).1, (k.1 n).2.trans (h.1 n).2⟩, fun c => (k.2 c).trans (h.2 c)⟩
  | pins => exact fun j => (k j).trans (h j)

/-- What a command leaves alone that acts on no axis, no meeting and no profile. -/
structure RestFrame (o : Option Setting) (s t : State) : Prop where
  axes : t.axes = s.axes
  joins : t.joins = s.joins
  profiles : t.profiles = s.profiles
  kept : KeepsBut o s t

theorem RestFrame.refl (o : Option Setting) (s : State) : RestFrame o s s := ⟨rfl, rfl, rfl, fun _ _ => Kept.refl _ _⟩

theorem RestFrame.trans {o : Option Setting} {s t u : State} (h : RestFrame o s t) (k : RestFrame o t u) :
    RestFrame o s u :=
  ⟨k.axes.trans h.axes, k.joins.trans h.joins, k.profiles.trans h.profiles,
    fun x hx => (h.kept x hx).trans (k.kept x hx)⟩

theorem foldl_restFrame {α : Type} {o : Option Setting} (f : State → α → State) (hf : ∀ s y, RestFrame o s (f s y))
    (l : List α) (s : State) : RestFrame o s (l.foldl f s) :=
  List.foldlRecOn l f (.refl o s) fun t h y _ => h.trans (hf t y)

/-- A frame of nothing changed but `x` is one in which `x` may have changed. -/
theorem RestFrame.weaken {o : Option Setting} {s t : State} (h : RestFrame none s t) : RestFrame o s t :=
  ⟨h.axes, h.joins, h.profiles, fun x _ => h.kept x (by simp)⟩

/-- A frame of equal axes, meetings and profiles, with the other settings given one by one. -/
theorem restFrame_of {o : Option Setting} {s t : State} (axes : t.axes = s.axes) (joins : t.joins = s.joins)
    (profiles : t.profiles = s.profiles) (uptime : o ≠ some .uptime → Kept s t .uptime)
    (link : o ≠ some .link → Kept s t .link) (inputs : o ≠ some .inputs → Kept s t .inputs)
    (fields : o ≠ some .fields → Kept s t .fields) (outputs : o ≠ some .outputs → Kept s t .outputs)
    (pins : o ≠ some .pins → Kept s t .pins) : RestFrame o s t := by
  refine ⟨axes, joins, profiles, fun x hx => ?_⟩
  cases x with
  | config => exact fun a => by rw [State.axis, axes]; rfl
  | queues => exact fun a => by rw [State.axis, axes]; exact List.suffix_refl _
  | profiles => exact profiles
  | uptime => exact uptime hx
  | link => exact link hx
  | inputs => exact inputs hx
  | fields => exact fields hx
  | outputs => exact outputs hx
  | pins => exact pins hx

theorem restFrame_setOutput (s : State) (n : Fin 8) (o : OutputRecord) (h : o.activeLow = (s.output n).activeLow)
    (k : o.lossLevel = (s.output n).lossLevel) : RestFrame none s (s.setOutput n o) := by
  refine restFrame_of rfl rfl rfl (fun _ => rfl) (fun _ => Kept.refl s .link) (fun _ => Kept.refl s .inputs)
    (fun _ => Kept.refl s .fields) ?_
    (fun _ => Kept.refl s .pins)
  refine fun _ => ⟨fun m => ?_, fun _ => rfl⟩
  rw [State.output_setOutput]
  split
  · next e => rw [e]; exact ⟨h, k⟩
  · exact ⟨rfl, rfl⟩

theorem restFrame_setChannel (s : State) (c : Fin 2) (p : PwmChannel) (h : p.offOnLoss = (s.channel c).offOnLoss) :
    RestFrame none s (s.setChannel c p) := by
  refine restFrame_of rfl rfl rfl (fun _ => rfl) (fun _ => Kept.refl s .link) (fun _ => Kept.refl s .inputs)
    (fun _ => Kept.refl s .fields) ?_
    (fun _ => Kept.refl s .pins)
  refine fun _ => ⟨fun m => ⟨rfl, rfl⟩, fun d => ?_⟩
  rw [State.channel_setChannel]
  split
  · next e => rw [e]; exact h
  · rfl

theorem restFrame_setTrigger (s : State) (i : Fin 24) (t : TriggerSlot) (h : t.fields = (s.trigger i).fields) :
    RestFrame none s (s.setTrigger i t) := by
  refine restFrame_of rfl rfl rfl (fun _ => rfl) (fun _ => Kept.refl s .link) (fun _ => Kept.refl s .inputs)
    ?_ (fun _ => Kept.refl s .outputs)
    (fun _ => Kept.refl s .pins)
  intro _ j
  rw [State.trigger_setTrigger]
  split
  · next e => rw [e]; exact h
  · rfl

/-- A write of one input: its polarity and its pin are as they were, but for the setting `o`. -/
theorem restFrame_setInput_own {o : Option Setting} (s : State) (i : InputId) (r : InputRecord)
    (h : o = some .inputs ∨ r.activeHigh = (s.input i).activeHigh) (k : o = some .pins ∨ r.pinHigh = (s.input i).pinHigh) :
    RestFrame o s (s.setInput i r) := by
  have hf : (s.setInput i r).inputs.axisFilter = s.inputs.axisFilter ∧
      (s.setInput i r).inputs.generalFilter = s.inputs.generalFilter ∧
      (s.setInput i r).inputs.reportOnChange = s.inputs.reportOnChange := by cases i <;> exact ⟨rfl, rfl, rfl⟩
  refine restFrame_of (by simp) (by simp) (by simp) (fun _ => by simp [Kept]) (fun _ => ⟨by simp, by simp⟩)
    (fun ho => ⟨fun j => ?_, hf⟩) (fun _ j => by simp) (fun _ => ⟨fun n => by simp, fun c => by simp⟩) (fun ho j => ?_)
  all_goals
    rw [State.input_setInput]
    split
  · next e => rw [e]; exact h.resolve_left ho
  · rfl
  · next e => rw [e]; exact k.resolve_left ho
  · rfl

/-- A write of an input record that keeps its polarity and its pin. -/
theorem restFrame_setInput (s : State) (i : InputId) (r : InputRecord) (h : r.activeHigh = (s.input i).activeHigh)
    (k : r.pinHigh = (s.input i).pinHigh) : RestFrame none s (s.setInput i r) :=
  restFrame_setInput_own s i r (.inr h) (.inr k)

/-- A change of the line interface alone, which keeps the link timeout. -/
structure LineOnly (s t : State) : Prop where
  timeout : t.line.timeout = s.line.timeout
  rest : t = { s with line := t.line }

theorem LineOnly.refl (s : State) : LineOnly s s := ⟨rfl, rfl⟩

theorem LineOnly.trans {s t u : State} (h : LineOnly s t) (k : LineOnly t u) : LineOnly s u :=
  ⟨k.timeout.trans h.timeout, k.rest.trans (by rw [h.rest])⟩

theorem LineOnly.frame {s t : State} (h : LineOnly s t) : RestFrame none s t := by
  obtain ⟨ht, e⟩ := h
  rw [e]
  exact restFrame_of rfl rfl rfl (fun _ => rfl) (fun _ => ⟨ht, rfl⟩) (fun _ => Kept.refl s .inputs)
    (fun _ => Kept.refl s .fields) (fun _ => Kept.refl s .outputs)
    (fun _ => Kept.refl s .pins)

/-! ### Frames on the line -/

/-- Axes, meetings and profiles are at their reset values. -/
structure FreshBlocks (t : State) : Prop where
  axes : t.axes = Vector.replicate 4 .reset
  joins : t.joins = []
  profiles : t.profiles = Vector.replicate 8 []

theorem takeReset_fresh (c : ResetCause) (s : State) : FreshBlocks (takeReset c s) := ⟨rfl, rfl, rfl⟩

theorem resetNow_fresh (c : ResetCause) (s : State) : FreshBlocks (resetNow c s) := ⟨rfl, rfl, rfl⟩

/-- The opening byte of a frame: a RESTART that was answered resets the part; otherwise the line alone changes. -/
theorem beginFrame_cases (s : State) :
    s.restartWaiting = true ∧ beginFrame s = resetNow .order s ∨ LineOnly s (beginFrame s) := by
  unfold beginFrame
  split
  · next r htr =>
    split
    · next hr => exact .inl ⟨by simp [State.restartWaiting, htr, hr], rfl⟩
    · exact .inr ⟨rfl, rfl⟩
  · exact .inr ⟨rfl, rfl⟩
  · exact .inr (.refl s)

/-- A complete frame: the reset of a RESTART, or the frame's own effect after the line has taken it, or nothing but the
line. -/
theorem onFrame_cases (f : State → State) (s : State) :
    s.restartWaiting = true ∧ onFrame f s = resetNow .order s ∨
      ∃ u, LineOnly s u ∧ (onFrame f s = u ∨ onFrame f s = f u) := by
  unfold onFrame
  split
  · exact .inr ⟨s, .refl s, .inl rfl⟩
  · split
    · exact .inr ⟨s.setReceive .between, ⟨rfl, rfl⟩, .inr rfl⟩
    · dsimp only
      obtain ⟨hw, e⟩ | hl := beginFrame_cases s
      · rw [e]; exact .inl ⟨hw, rfl⟩
      · split
        · exact .inr ⟨(beginFrame s).setReceive .between, hl.trans ⟨rfl, rfl⟩, .inr rfl⟩
        · exact .inr ⟨_, hl, .inl rfl⟩

theorem abandonFrame_lineOnly (r : ReceiveSide) (count : LinkStats → LinkStats) (s : State) :
    LineOnly s (abandonFrame r count s) := by
  unfold abandonFrame
  split
  · exact .refl s
  · split
    · exact ⟨rfl, rfl⟩
    · exact .refl s

theorem supervise_lineOnly (s : State) : LineOnly s (supervise s) := by
  unfold supervise
  split
  · split
    · exact .refl s
    · exact ⟨rfl, rfl⟩
  · exact ⟨rfl, rfl⟩

/-- An order that is executed: what its decision leaves, or nothing, and the line. -/
theorem executeOrder_cases (code : Byte) (restarts : Bool) (f : State → Verdict) (seq : BitVec 3) (s : State) :
    LineOnly s (executeOrder code restarts f seq s) ∨
      ∃ v r, f s = .accepted v r ∧ LineOnly v (executeOrder code restarts f seq s) := by
  cases hv : f s with
  | accepted v r => exact .inr ⟨v, r, rfl, by simp only [executeOrder, hv]; exact ⟨rfl, rfl⟩⟩
  | refused c => exact .inl (by simp only [executeOrder, hv]; exact ⟨rfl, rfl⟩)

/-- What an ORDER frame does once it has been received whole (R156, R159 to R162). -/
def orderEffect (code : Byte) (heard restarts : Bool) (f : State → Verdict) (h : Header) (s : State) : State :=
  match addressee s.line h.station with
  | .station => addressedOrder code restarts f h.seq (supervise s)
  | .broadcast => if heard then (f (supervise s)).stateFrom (supervise s) else supervise s
  | .other => s

theorem receiveOrder_eq (code : Byte) (heard restarts : Bool) (f : State → Verdict) (h : Header) (s : State) :
    receiveOrder code heard restarts f h s = onFrame (orderEffect code heard restarts f h) s := rfl

/-- Beside the line, an order leaves what its decision leaves when it accepts, and else nothing (R159 to R161). -/
theorem orderEffect_cases (code : Byte) (heard restarts : Bool) (f : State → Verdict) (h : Header) (s : State) :
    LineOnly s (orderEffect code heard restarts f h s) ∨
      ∃ u v r, LineOnly s u ∧ f u = .accepted v r ∧ LineOnly v (orderEffect code heard restarts f h s) := by
  have hs := supervise_lineOnly s
  have lift : ∀ t, LineOnly (supervise s) t ∨ (∃ v r, f (supervise s) = .accepted v r ∧ LineOnly v t) →
      LineOnly s t ∨ ∃ u v r, LineOnly s u ∧ f u = .accepted v r ∧ LineOnly v t := by
    rintro t (ht | ⟨v, r, hv, ht⟩)
    · exact .inl (hs.trans ht)
    · exact .inr ⟨_, v, r, hs, hv, ht⟩
  have executed := executeOrder_cases code restarts f h.seq (supervise s)
  unfold orderEffect
  split
  · refine lift _ ?_
    unfold addressedOrder
    split
    · split
      · exact .inl ⟨rfl, rfl⟩
      · exact executed
    · exact executed
  · split
    · refine lift _ ?_
      cases hv : f (supervise s) with
      | accepted v r => exact .inr ⟨v, r, rfl, .refl v⟩
      | refused c => exact .inl (.refl _)
    · exact .inl hs
  · exact .inl (.refl s)

/-- What an ORDER frame can do (R155 to R162): the reset of a RESTART that was answered before, nothing beside the line,
or, beside the line, what the order's decision leaves when it accepts. -/
theorem receiveOrder_cases (code : Byte) (heard restarts : Bool) (f : State → Verdict) (h : Header) (s : State) :
    s.restartWaiting = true ∧ receiveOrder code heard restarts f h s = resetNow .order s ∨
    LineOnly s (receiveOrder code heard restarts f h s) ∨
    ∃ u v r, LineOnly s u ∧ f u = .accepted v r ∧ LineOnly v (receiveOrder code heard restarts f h s) := by
  rw [receiveOrder_eq]
  obtain hr | ⟨u, hu, e | e⟩ := onFrame_cases (orderEffect code heard restarts f h) s
  · exact .inl hr
  · rw [e]; exact .inr (.inl hu)
  · rw [e]
    obtain ht | ⟨w, v, r, hw, hv, ht⟩ := orderEffect_cases code heard restarts f h u
    · exact .inr (.inl (hu.trans ht))
    · exact .inr (.inr ⟨w, v, r, hu.trans hw, hv, ht⟩)

end Sys2Proof.Machine
end

section
/-! What each command can do, said once: a reset, nothing that concerns axes and profiles, or the one operation its rule
names, with what its checks have established. -/

namespace Sys2Proof.Machine

/-! ### What each command can do -/

/-- What a command does to the part beside the line: nothing that concerns an axis, a meeting or a profile; or the one
operation that its rule names, with what its checks have established. -/
inductive Deed : Instr → State → State → Prop where
  | rest {i s t} (h : RestFrame (changedBy i) s t) : Deed i s t
  | setAxis {h p s} (a : AxisId) (c : AxisConfig) (hb : (s.axis a).busy = false)
      (hn : namesEmpty c.stopProfile s = false) : Deed (.setAxis h p) s (setConfig a c s)
  | enable {h p s} (m : AxisMask) : Deed (.enable h p) s ((axesOf m).foldl (fun s a => enableAxis a s) s)
  | disable {h p s} (m : AxisMask) : Deed (.disable h p) s ((axesOf m).foldl (fun s a => disableAxis a s) s)
  | setPosition {h p s} (a : AxisId) (x : Position) (hb : (s.axis a).busy = false) :
      Deed (.setPosition h p) s (s.setAxis a { s.axis a with position := x })
  | resume {h p s} (order : List AxisId) (n : Nat) : Deed (.resume h p) s (resumeInOrder order { s with freeCount := n })
  | stop {h p s} (mode : StopMode) (flush : Bool) (order : List AxisId) (n : Nat) :
      Deed (.stop h p) s (stopInOrder mode flush order { s with freeCount := n })
  | queueSegment {h p s} (a : AxisId) (g : Segment) (hg : g.work.inRange a = true)
      (hn : namesEmpty g.work.profile s = false) (hf : s.queued < 48) :
      Deed (.queueSegment h p) s
        (if (s.axis a).state = .idle then activateHead a (appendSegment a g s) else appendSegment a g s)
  | flushQueue {h p s} (m : AxisMask) (hb : ∀ a ∈ axesOf m, (s.axis a).busy = false) :
      Deed (.flushQueue h p) s ((axesOf m).foldl (fun s a => flushAxis a s) s)
  | defineProfile {h p s} (k : ProfileId) (l : List Stage) (hne : l ≠ []) (hl : l.length ≤ 16)
      (hr : l.all Stage.inRange = true) (ha : ascending l = true) : Deed (.defineProfile h p) s (s.setProfile k l)
  | dropProfile {h p s} (k : ProfileId) (hu : s.profileInUse k = false) (hn : s.profileNamedForStopping k = false) :
      Deed (.dropProfile h p) s (s.setProfile k [])
  | setInputConfig {h p s} (c : InputConfig) : Deed (.setInputConfig h p) s (applyInputConfig c s)
  | linkLoss {s} : Deed .linkLossEvent s (loseLink s)
  | dwellEnd {s} (a : AxisId) (hd : waitDue .dwell a s = true) : Deed (.dwellEnd a) s (endSegment a .complete s)
  | inputTimeout {s} (a : AxisId) (hd : waitDue .waitInput a s = true) :
      Deed (.inputTimeout a) s (endHeld a .inputTimeout s)
  | filterAcceptance {s} (j : InputId) (hd : s.due (s.input j).pending = true) :
      Deed (.filterAcceptance j) s (acceptRaw j s)
  | rawChange {s} (j : InputId) (high : Bool) : Deed (.rawChange (.input j) high) s (pinTakes j high s)
  | stepIssue {s} (a : AxisId) : Deed (.stepIssue a) s (issueStep a s)
  | stepPulseStart {s} (a : AxisId) : Deed (.stepPulseStart a) s (s.setAxis a (s.axis a).pulseStart)
  | stepPulseEnd {s} (a : AxisId) : Deed (.stepPulseEnd a) s (s.setAxis a (s.axis a).pulseEnd)
  | tailIntervalExpiry {s} (a : AxisId) (ht : inTail .running a s = true) :
      Deed (.tailIntervalExpiry a) s (endSegment a .complete s)
  | stopWalkEnd {s} (a : AxisId) (c : Cause) (ht : inTail .stopping a s = true)
      (hc : recordedCauseOf (s.axis a) = some c) : Deed (.stopWalkEnd a) s (endSegment a c s)

/-- The commands that reset the part: power-on, the RESET pin, and whatever takes the reply to a RESTART away (R166). -/
def Resets (i : Instr) (s : State) : Prop := s.restartWaiting = true ∨ (∃ b, i = .powerOn b) ∨ i = .resetPin

/-- What a step under a command can come to: a reset, which leaves axes, meetings and profiles at their reset values; or
the command's deed, with changes of the line before and after it. -/
def Does (i : Instr) (s t : State) : Prop :=
  Resets i s ∧ FreshBlocks t ∨ ∃ u v, LineOnly s u ∧ Deed i u v ∧ LineOnly v t

theorem Does.of_deed {i : Instr} {s t : State} (h : Deed i s t) : Does i s t := .inr ⟨s, t, .refl s, h, .refl t⟩

theorem Does.of_rest {i : Instr} {s t : State} (h : RestFrame (changedBy i) s t) : Does i s t := .of_deed (.rest h)

theorem Does.of_line {i : Instr} {s t : State} (h : LineOnly s t) : Does i s t := .of_rest h.frame.weaken

theorem Does.nothing (i : Instr) (s : State) : Does i s s := .of_line (.refl s)

/-- An operation that a part held in reset does not take (R166). -/
theorem Does.whenRunning {i : Instr} {s : State} {f : State → State} (h : Does i s (f s)) :
    Does i s (whenRunning f s) := by
  unfold Machine.whenRunning
  split
  · exact .nothing i s
  · exact h

theorem Does.onFrame {i : Instr} {s : State} {f : State → State}
    (h : ∀ u, RestFrame (changedBy i) u (f u)) : Does i s (onFrame f s) := by
  obtain ⟨hw, e⟩ | ⟨u, hu, e | e⟩ := onFrame_cases f s
  · exact .inl ⟨.inl hw, e ▸ resetNow_fresh _ s⟩
  · exact .of_line (e ▸ hu)
  · rw [e]; exact .inr ⟨u, f u, hu, .rest (h u), .refl _⟩

theorem Does.beginFrame {i : Instr} {s : State} : Does i s (beginFrame s) := by
  obtain ⟨hw, e⟩ | h := beginFrame_cases s
  · exact .inl ⟨.inl hw, e ▸ resetNow_fresh _ s⟩
  · exact .of_line h

/-- An order of which every acceptance is a deed. -/
theorem Does.order {i : Instr} {code : Byte} {heard restarts : Bool} {f : State → Verdict} {h : Header} {s : State}
    (hf : ∀ u v r, f u = .accepted v r → Deed i u v) : Does i s (receiveOrder code heard restarts f h s) := by
  obtain ⟨hw, e⟩ | hl | ⟨u, v, r, hu, hv, ht⟩ := receiveOrder_cases code heard restarts f h s
  · exact .inl ⟨.inl hw, e ▸ resetNow_fresh _ s⟩
  · exact .of_line hl
  · exact .inr ⟨u, v, hu, hf u v r hv, ht⟩

/-! ### The decisions of the orders -/

theorem orBadValue_accepted {α : Type} {x : Option α} {f : α → Verdict} {v : State} {r : List Byte}
    (h : orBadValue x f = .accepted v r) : ∃ y, x = some y ∧ f y = .accepted v r := by
  cases x with
  | none => cases h
  | some y => exact ⟨y, rfl, h⟩

theorem noParams_accepted {p : List Byte} {w : Verdict} {v : State} {r : List Byte}
    (h : noParams p w = .accepted v r) : w = .accepted v r := by
  cases p with
  | nil => exact h
  | cons => cases h

/-- An order that leaves the state as it finds it. -/
theorem Deed.of_same {i : Instr} {u v : State} (h : v = u) : Deed i u v := by
  subst h
  exact .rest (.refl _ v)

theorem Deed.noParams {i : Instr} {p : List Byte} {u w v : State} {q r : List Byte} (hw : RestFrame (changedBy i) u w)
    (h : noParams p (.accepted w q) = .accepted v r) : Deed i u v := by
  obtain ⟨rfl, -⟩ := Verdict.accepted.inj (noParams_accepted h)
  exact .rest hw

section
variable {h : Header} {p : List Byte} {u v : State} {r : List Byte}

theorem orderSetLink_deed (hv : orderSetLink p u = .accepted v r) : Deed (.setLink h p) u v := by
  unfold orderSetLink at hv
  split at hv
  · obtain ⟨y, -, hv⟩ := orBadValue_accepted hv
    obtain ⟨rfl, -⟩ := Verdict.accepted.inj hv
    exact .rest (restFrame_of rfl rfl rfl (fun _ => rfl) (fun hl => absurd rfl hl) (fun _ => Kept.refl u .inputs)
      (fun _ => Kept.refl u .fields) (fun _ => Kept.refl u .outputs) (fun _ => Kept.refl u .pins))
  · cases hv

theorem orderGetLinkStats_deed (hv : orderGetLinkStats p u = .accepted v r) : Deed (.getLinkStats h p) u v := by
  unfold orderGetLinkStats at hv
  split at hv
  · obtain ⟨y, -, hv⟩ := orBadValue_accepted hv
    obtain ⟨rfl, -⟩ := Verdict.accepted.inj hv
    refine .rest (LineOnly.frame ?_).weaken
    cases y
    · exact .refl u
    · exact ⟨rfl, rfl⟩
  · cases hv

theorem orderSetAxis_deed (hv : orderSetAxis p u = .accepted v r) : Deed (.setAxis h p) u v := by
  unfold orderSetAxis at hv
  split at hv
  · obtain ⟨y, -, hv⟩ := orBadValue_accepted hv
    split at hv
    · cases hv
    · split at hv
      · cases hv
      · next hb =>
        split at hv
        · cases hv
        · next hn =>
          obtain ⟨rfl, -⟩ := Verdict.accepted.inj hv
          exact .setAxis _ _ (by simpa using hb) (by simpa using hn)
  · cases hv

theorem orderGetAxis_deed (hv : orderGetAxis p u = .accepted v r) : Deed (.getAxis h p) u v := by
  unfold orderGetAxis at hv
  split at hv
  · obtain ⟨y, -, hv⟩ := orBadValue_accepted hv
    exact .of_same (Verdict.accepted.inj hv).1.symm
  · cases hv

theorem orderEnable_deed (hv : orderEnable p u = .accepted v r) : Deed (.enable h p) u v := by
  unfold orderEnable at hv
  split at hv
  · obtain ⟨m, -, hv⟩ := orBadValue_accepted hv
    split at hv
    · cases hv
    · obtain ⟨rfl, -⟩ := Verdict.accepted.inj hv
      exact .enable m
  · cases hv

theorem orderDisable_deed (hv : orderDisable p u = .accepted v r) : Deed (.disable h p) u v := by
  unfold orderDisable at hv
  split at hv
  · obtain ⟨m, -, hv⟩ := orBadValue_accepted hv
    split at hv
    · cases hv
    · obtain ⟨rfl, -⟩ := Verdict.accepted.inj hv
      exact .disable m
  · cases hv

theorem orderSetPosition_deed (hv : orderSetPosition p u = .accepted v r) : Deed (.setPosition h p) u v := by
  unfold orderSetPosition at hv
  split at hv
  · obtain ⟨a, -, hv⟩ := orBadValue_accepted hv
    split at hv
    · cases hv
    · next hb =>
      obtain ⟨rfl, -⟩ := Verdict.accepted.inj hv
      exact .setPosition a _ (by simpa using hb)
  · cases hv

theorem orderGetAxisState_deed (hv : orderGetAxisState p u = .accepted v r) : Deed (.getAxisState h p) u v := by
  unfold orderGetAxisState at hv
  split at hv
  · obtain ⟨y, -, hv⟩ := orBadValue_accepted hv
    exact .of_same (Verdict.accepted.inj hv).1.symm
  · cases hv

theorem orderResume_deed (hv : orderResume p u = .accepted v r) : Deed (.resume h p) u v := by
  unfold orderResume at hv
  split at hv
  · obtain ⟨m, -, hv⟩ := orBadValue_accepted hv
    split at hv
    · cases hv
    · split at hv
      · cases hv
      · obtain ⟨n, hn⟩ := (drawOrder_spec (axesOf m) u).2
        generalize drawOrder (axesOf m) u = d at hv hn
        obtain ⟨order, t⟩ := d
        obtain rfl : t = _ := hn
        obtain ⟨rfl, -⟩ := Verdict.accepted.inj hv
        exact .resume order n
  · cases hv

theorem orderStop_deed (hv : orderStop p u = .accepted v r) : Deed (.stop h p) u v := by
  unfold orderStop at hv
  split at hv
  · obtain ⟨y, -, hv⟩ := orBadValue_accepted hv
    obtain ⟨n, hn⟩ := (drawOrder_spec (axesOf y.1) u).2
    generalize drawOrder (axesOf y.1) u = d at hv hn
    obtain ⟨order, t⟩ := d
    obtain rfl : t = _ := hn
    obtain ⟨rfl, -⟩ := Verdict.accepted.inj hv
    exact .stop _ _ order n
  · cases hv

/-- A segment that the bytes of a QUEUE_SEGMENT spell is in the ranges of its kind (R10). -/
theorem readSegment_inRange {a : AxisId} {kind tag flags p0 p1 p2 p3 p4 p5 : Byte} {g : Segment}
    (hg : readSegment a kind tag flags p0 p1 p2 p3 p4 p5 = some g) : g.work.inRange a = true := by
  have hcount : ∀ {b0 b1 b2 : Byte} {n : Nat}, readCount b0 b1 b2 = some n → countInRange n = true := by
    intro b0 b1 b2 n hn
    unfold readCount at hn
    split at hn
    · next hr => rw [← Option.some.inj hn]; exact decide_eq_true hr
    · cases hn
  have hrate : ∀ {b0 b1 : Byte} {n : Nat}, readRate b0 b1 = some n → rateInRange n = true := by
    intro b0 b1 n hn
    unfold readRate at hn
    split at hn
    · next hr => rw [← Option.some.inj hn]; exact decide_eq_true hr
    · cases hn
  have hle : ∀ b0 b1 : Byte, le2 b0 b1 ≤ 65535 := fun b0 b1 => by
    have := b0.isLt; have := b1.isLt; unfold le2; omega
  unfold readSegment at hg
  dsimp only at hg
  split at hg
  case h_1 =>
    simp only [Option.bind_eq_bind, Option.bind_eq_some_iff, Option.pure_def, Option.some.injEq] at hg
    obtain ⟨-, -, n, hn, k, hk, -, -, rfl⟩ := hg
    simp [Work.inRange, hcount hn, hrate hk]
  case h_2 =>
    simp only [Option.bind_eq_bind, Option.bind_eq_some_iff, Option.pure_def, Option.some.injEq] at hg
    obtain ⟨-, -, k, hk, -, -, rfl⟩ := hg
    simp [Work.inRange, hrate hk]
  case h_3 =>
    simp only [Option.bind_eq_bind, Option.bind_eq_some_iff, Option.pure_def, Option.some.injEq] at hg
    obtain ⟨-, -, -, -, k, hk, -, -, rfl⟩ := hg
    simp [Work.inRange, hrate hk]
  case h_4 =>
    simp only [Option.bind_eq_bind, Option.bind_eq_some_iff, Option.pure_def, Option.some.injEq] at hg
    obtain ⟨-, -, n, hn, k, hk, -, -, rfl⟩ := hg
    simp [Work.inRange, hcount hn, hrate hk]
  case h_5 =>
    simp only [Option.bind_eq_bind, Option.bind_eq_some_iff, Option.pure_def, Option.some.injEq] at hg
    obtain ⟨-, -, n, hn, -, -, rfl⟩ := hg
    unfold readTime at hn
    split at hn
    · next hr =>
      obtain rfl := Option.some.inj hn
      simp [Work.inRange, hr, hle]
    · cases hn
  case h_6 =>
    obtain ⟨-, -, hg⟩ := Option.bind_eq_some_iff.1 hg
    split at hg
    · cases hg
    · next ht =>
      obtain ⟨m, -, hg⟩ := Option.bind_eq_some_iff.1 hg
      split at hg
      · cases hg
      · next hm =>
        obtain ⟨-, -, hg⟩ := Option.bind_eq_some_iff.1 hg
        obtain rfl := Option.some.inj hg
        rw [not_or, not_not, mem_axesOf] at hm
        have hrange : 1 ≤ p0.toNat ∧ p0.toNat ≤ 63 ∧ 2 ≤ (axesOf m).length := by omega
        exact Bool.and_eq_true_iff.2 ⟨decide_eq_true hrange, hm.2⟩
  case h_7 =>
    simp only [Option.bind_eq_bind, Option.bind_eq_some_iff, Option.pure_def, Option.some.injEq] at hg
    obtain ⟨-, -, -, -, -, -, -, -, rfl⟩ := hg
    simp [Work.inRange, hle]
  case h_8 => cases hg

theorem orderQueueSegment_deed (hv : orderQueueSegment p u = .accepted v r) : Deed (.queueSegment h p) u v := by
  unfold orderQueueSegment at hv
  split at hv
  · obtain ⟨⟨a, g⟩, hy, hv⟩ := orBadValue_accepted hv
    simp only [Option.bind_eq_bind, Option.bind_eq_some_iff, Option.pure_def, Option.some.injEq] at hy
    obtain ⟨a', -, g', hg, e⟩ := hy
    obtain ⟨rfl, rfl⟩ := Prod.mk.inj e
    split at hv
    · cases hv
    · next hn =>
      split at hv
      · cases hv
      · next hf =>
        obtain ⟨rfl, -⟩ := Verdict.accepted.inj hv
        exact .queueSegment a' g' (readSegment_inRange hg) (by simpa using hn)
          (by unfold State.freeSlots at hf; omega)
  · cases hv

theorem orderFlushQueue_deed (hv : orderFlushQueue p u = .accepted v r) : Deed (.flushQueue h p) u v := by
  unfold orderFlushQueue at hv
  split at hv
  · obtain ⟨m, -, hv⟩ := orBadValue_accepted hv
    split at hv
    · cases hv
    · next hb =>
      obtain ⟨rfl, -⟩ := Verdict.accepted.inj hv
      exact .flushQueue m (by simpa using hb)
  · cases hv

theorem orderPeekQueue_deed (hv : orderPeekQueue p u = .accepted v r) : Deed (.peekQueue h p) u v := by
  unfold orderPeekQueue at hv
  split at hv
  · obtain ⟨y, -, hv⟩ := orBadValue_accepted hv
    exact .of_same (Verdict.accepted.inj hv).1.symm
  · cases hv

/-- Stages are read three bytes each, and each is in its ranges (R20, R21). -/
theorem readStages_spec {bytes : List Byte} {l : List Stage} (hl : readStages bytes = some l) :
    bytes.length = 3 * l.length ∧ l.all Stage.inRange = true := by
  induction bytes using readStages.induct generalizing l with
  | case1 =>
    obtain rfl := Option.some.inj hl
    exact ⟨rfl, rfl⟩
  | case2 r0 r1 n rest ih =>
    obtain ⟨rate, hr, hl⟩ := Option.bind_eq_some_iff.1 hl
    dsimp only at hl
    split at hl
    · cases hl
    · next hn =>
      obtain ⟨stages, hs, hl⟩ := Option.bind_eq_some_iff.1 hl
      obtain rfl := Option.some.inj hl
      obtain ⟨hlen, hall⟩ := ih hs
      have hrate : rateInRange rate = true := by
        unfold readRate at hr
        split at hr
        · next hr' => rw [← Option.some.inj hr]; exact decide_eq_true hr'
        · cases hr
      have hn0 : n.toNat ≠ 0 := fun e => hn (BitVec.eq_of_toNat_eq e)
      have hn1 := n.isLt
      have hsteps : 1 ≤ n.toNat ∧ n.toNat ≤ 255 := by omega
      refine ⟨by simp only [List.length_cons, hlen]; omega, ?_⟩
      simp [Stage.inRange, hrate, hsteps, hall]
  | case3 bytes hnil hcons =>
    rw [readStages] at hl
    · cases hl
    · exact hnil
    · exact hcons

theorem orderDefineProfile_deed (hv : orderDefineProfile p u = .accepted v r) : Deed (.defineProfile h p) u v := by
  unfold orderDefineProfile at hv
  split at hv
  · next n c bytes =>
    split at hv
    · cases hv
    · next hlen =>
      obtain ⟨⟨k, l⟩, hy, hv⟩ := orBadValue_accepted hv
      simp only [Option.bind_eq_bind, Option.bind_eq_some_iff, Option.pure_def, Option.some.injEq] at hy
      obtain ⟨k', -, l', hl, e⟩ := hy
      obtain ⟨rfl, rfl⟩ := Prod.mk.inj e
      split at hv
      · cases hv
      · obtain ⟨rfl, -⟩ := Verdict.accepted.inj hv
        unfold readStageList at hl
        split at hl
        · cases hl
        · next hc =>
          obtain ⟨stages, hs, hl⟩ := Option.bind_eq_some_iff.1 hl
          split at hl
          · next ha =>
            obtain rfl := Option.some.inj hl
            obtain ⟨h3, hall⟩ := readStages_spec hs
            have hc0 : c.toNat ≠ 0 := fun e => hc (.inl (BitVec.eq_of_toNat_eq e))
            refine .defineProfile k' stages (fun e => ?_) (by omega) hall ha
            rw [e, List.length_nil] at h3
            omega
          · cases hl
  · cases hv

theorem orderReadProfile_deed (hv : orderReadProfile p u = .accepted v r) : Deed (.readProfile h p) u v := by
  unfold orderReadProfile at hv
  split at hv
  · obtain ⟨y, -, hv⟩ := orBadValue_accepted hv
    exact .of_same (Verdict.accepted.inj hv).1.symm
  · cases hv

theorem orderDropProfile_deed (hv : orderDropProfile p u = .accepted v r) : Deed (.dropProfile h p) u v := by
  unfold orderDropProfile at hv
  split at hv
  · obtain ⟨k, -, hv⟩ := orBadValue_accepted hv
    split at hv
    · cases hv
    · next hu =>
      obtain ⟨rfl, -⟩ := Verdict.accepted.inj hv
      rw [Bool.or_eq_true, not_or, Bool.not_eq_true, Bool.not_eq_true] at hu
      exact .dropProfile k hu.1 hu.2
  · cases hv

/-- A write of a trigger slot, where the command may change its fields. -/
theorem restFrame_writeTrigger (s : State) (i : Fin 24) (t : TriggerSlot) :
    RestFrame (some .fields) s (s.setTrigger i t) :=
  restFrame_of rfl rfl rfl (fun _ => rfl) (fun _ => Kept.refl s .link) (fun _ => Kept.refl s .inputs)
    (fun hf => absurd rfl hf) (fun _ => Kept.refl s .outputs) (fun _ => Kept.refl s .pins)

theorem orderSetTrigger_deed (hv : orderSetTrigger p u = .accepted v r) : Deed (.setTrigger h p) u v := by
  unfold orderSetTrigger at hv
  split at hv
  · obtain ⟨y, -, hv⟩ := orBadValue_accepted hv
    split at hv
    · cases hv
    · obtain ⟨rfl, -⟩ := Verdict.accepted.inj hv
      exact .rest (restFrame_writeTrigger u _ _)
  · cases hv

theorem changeSlots_frame (f : SlotState → SlotState) (m : SlotMask) (s : State) :
    RestFrame none s (changeSlots f m s) := by
  refine foldl_restFrame _ (fun s i => ?_) _ s
  exact restFrame_setTrigger s i _ rfl

theorem orderArmTriggers_deed (hv : orderArmTriggers p u = .accepted v r) : Deed (.armTriggers h p) u v := by
  unfold orderArmTriggers at hv
  split at hv
  · dsimp only at hv
    split at hv
    · cases hv
    · obtain ⟨rfl, -⟩ := Verdict.accepted.inj hv
      exact .rest (changeSlots_frame _ _ u)
  · cases hv

theorem orderDisarmTriggers_deed (hv : orderDisarmTriggers p u = .accepted v r) : Deed (.disarmTriggers h p) u v := by
  unfold orderDisarmTriggers at hv
  split at hv
  · obtain ⟨rfl, -⟩ := Verdict.accepted.inj hv
    exact .rest (changeSlots_frame _ _ u)
  · cases hv

theorem orderClearTriggers_deed (hv : orderClearTriggers p u = .accepted v r) : Deed (.clearTriggers h p) u v := by
  unfold orderClearTriggers at hv
  split at hv
  · dsimp only at hv
    split at hv
    · cases hv
    · obtain ⟨rfl, -⟩ := Verdict.accepted.inj hv
      exact .rest (foldl_restFrame _ (fun s i => restFrame_writeTrigger s i _) _ u)
  · cases hv

theorem orderReadTrigger_deed (hv : orderReadTrigger p u = .accepted v r) : Deed (.readTrigger h p) u v := by
  unfold orderReadTrigger at hv
  split at hv
  · obtain ⟨y, -, hv⟩ := orBadValue_accepted hv
    exact .of_same (Verdict.accepted.inj hv).1.symm
  · cases hv

theorem setLevel_frame (n : Fin 8) (b : Bool) (s : State) : RestFrame none s (setLevel n b s) :=
  restFrame_setOutput s n _ rfl rfl

theorem orderSetOutputs_deed (hv : orderSetOutputs p u = .accepted v r) : Deed (.setOutputs h p) u v := by
  unfold orderSetOutputs at hv
  split at hv
  · split at hv
    · obtain ⟨rfl, -⟩ := Verdict.accepted.inj hv
      exact .rest (foldl_restFrame _ (fun s n => setLevel_frame n _ s) _ u)
    · cases hv
  · cases hv

theorem orderPulseOutput_deed (hv : orderPulseOutput p u = .accepted v r) : Deed (.pulseOutput h p) u v := by
  unfold orderPulseOutput at hv
  split at hv
  · obtain ⟨y, -, hv⟩ := orBadValue_accepted hv
    obtain ⟨rfl, -⟩ := Verdict.accepted.inj hv
    exact .rest (restFrame_setOutput u _ _ rfl rfl)
  · cases hv

theorem orderSetOutputConfig_deed (hv : orderSetOutputConfig p u = .accepted v r) :
    Deed (.setOutputConfig h p) u v := by
  have write : ∀ (s : State) (o : Vector OutputRecord 8) (c : Vector PwmChannel 2),
      RestFrame (some .outputs) s { s with outputs := o, pwm := c } := fun s o c =>
    restFrame_of rfl rfl rfl (fun _ => rfl) (fun _ => Kept.refl s .link) (fun _ => Kept.refl s .inputs)
      (fun _ => Kept.refl s .fields) (fun ho => absurd rfl ho) (fun _ => Kept.refl s .pins)
  unfold orderSetOutputConfig at hv
  split at hv
  · split at hv
    · obtain ⟨rfl, -⟩ := Verdict.accepted.inj hv
      refine .rest (RestFrame.trans (foldl_restFrame _ (fun s n => ?_) _ u) (foldl_restFrame _ (fun s c => ?_) _ _))
      · exact write s _ s.pwm
      · exact write s s.outputs _
    · cases hv
  · cases hv

theorem PwmChannel.offOnLoss_set (c : PwmChannel) (enable : Bool) (x : PwmSetting) :
    (c.set enable x).offOnLoss = c.offOnLoss := by
  unfold PwmChannel.set PwmChannel.enableWith
  split
  · split <;> rfl
  · split <;> rfl

theorem orderSetPwm_deed (hv : orderSetPwm p u = .accepted v r) : Deed (.setPwm h p) u v := by
  unfold orderSetPwm at hv
  split at hv
  · obtain ⟨y, -, hv⟩ := orBadValue_accepted hv
    obtain ⟨rfl, -⟩ := Verdict.accepted.inj hv
    exact .rest (restFrame_setChannel u _ _ (PwmChannel.offOnLoss_set _ _ _))
  · cases hv

theorem orderGetPwm_deed (hv : orderGetPwm p u = .accepted v r) : Deed (.getPwm h p) u v := by
  unfold orderGetPwm at hv
  split at hv
  · obtain ⟨c, -, hv⟩ := orBadValue_accepted hv
    dsimp only at hv
    split at hv
    · exact .of_same (Verdict.accepted.inj hv).1.symm
    · obtain ⟨rfl, -⟩ := Verdict.accepted.inj hv
      exact .rest (restFrame_of rfl rfl rfl (fun _ => rfl) (fun _ => Kept.refl u .link) (fun _ => Kept.refl u .inputs)
        (fun _ => Kept.refl u .fields) (fun _ => Kept.refl u .outputs) (fun _ => Kept.refl u .pins))
  · cases hv

theorem orderSetInputConfig_deed (hv : orderSetInputConfig p u = .accepted v r) : Deed (.setInputConfig h p) u v := by
  unfold orderSetInputConfig at hv
  split at hv
  · obtain ⟨c, -, hv⟩ := orBadValue_accepted hv
    obtain ⟨rfl, -⟩ := Verdict.accepted.inj hv
    exact .setInputConfig c
  · cases hv

end

/-- A change of the report queue that keeps its attention flag. -/
theorem restFrame_reports (s : State) (q : ReportQueue) (h : q.attention = s.reports.attention) :
    RestFrame none s { s with reports := q } :=
  restFrame_of rfl rfl rfl (fun _ => rfl) (fun _ => ⟨rfl, h⟩) (fun _ => Kept.refl s .inputs)
    (fun _ => Kept.refl s .fields) (fun _ => Kept.refl s .outputs) (fun _ => Kept.refl s .pins)

theorem ReportQueue.attention_enter (q : ReportQueue) (t : Uptime) (b : ReportBody) :
    (q.enter t b).attention = q.attention := by
  unfold ReportQueue.enter
  split <;> rfl

theorem admitReport_restFrame (b : ReportBody) (s : State) : RestFrame none s (admitReport b s) :=
  restFrame_reports s _ (ReportQueue.attention_enter _ _ b)

theorem acknowledge_frame (ack : Option Byte) (s : State) : RestFrame none s (acknowledge ack s) := by
  unfold acknowledge
  split
  · split
    · exact restFrame_reports s _ rfl
    · exact .refl none s
  · exact .refl none s

/-- Every input record of the block is sampled (R136). -/
theorem input_sampled (s : State) (j : InputId) :
    State.input { s with inputs := s.inputs.sampled } j = (s.input j).sampled := by
  cases j with
  | axis a l => fin_cases a <;> cases l <;> rfl
  | general i => fin_cases i <;> rfl
  | estop => rfl

/-- The completion of a reset reads straps and pins, and changes no setting (R136, R153). -/
theorem completeReset_frame (c : ResetCause) (s : State) : RestFrame none s (completeReset c s) := by
  have hin : ∀ j, (completeReset c s).input j = (s.input j).sampled := input_sampled s
  have hr : (completeReset c s).reports.attention = s.reports.attention := ReportQueue.attention_enter _ _ _
  refine restFrame_of rfl rfl rfl (fun _ => rfl) (fun _ => ⟨rfl, hr⟩) (fun _ => ⟨fun j => ?_, rfl, rfl, rfl⟩)
    (fun _ => Kept.refl s .fields) (fun _ => Kept.refl s .outputs) (fun _ j => ?_)
  · rw [hin]; rfl
  · rw [hin]; rfl

theorem supervise_frame (s : State) : RestFrame none s (supervise s) := (supervise_lineOnly s).frame

/-- A POLL's answer looks at the report queue and builds a reply (R148, R149). -/
theorem answerPoll_frame (ack : Option Byte) (s : State) : RestFrame none s (answerPoll ack s) :=
  (acknowledge_frame ack s).trans (LineOnly.frame ⟨rfl, rfl⟩)

theorem execPoll_does {hd : Header} {ack : Option Byte} {s t : State} (h : exec (.poll hd ack) s = .next t) :
    Does (.poll hd ack) s t := by
  obtain rfl := Host.Outcome.next.inj h
  refine Does.onFrame fun u => ?_
  split
  · exact (supervise_frame u).trans (answerPoll_frame ack _)
  · exact supervise_frame u
  · exact .refl _ u

theorem execIgnoredFrame_does {st c : Byte} {p : List Byte} {s t : State}
    (h : exec (.ignoredFrame st c p) s = .next t) : Does (.ignoredFrame st c p) s t := by
  obtain rfl := Host.Outcome.next.inj h
  refine Does.onFrame fun u => ?_
  split
  · split
    · exact supervise_frame u
    · exact supervise_frame u
    · exact .refl _ u
  · exact .refl _ u

theorem execReplyStart_does {s t : State} (h : exec .replyStart s = .next t) : Does .replyStart s t := by
  obtain rfl := Host.Outcome.next.inj h
  refine Does.whenRunning (.of_line ?_)
  split
  · exact ⟨rfl, rfl⟩
  · exact .refl s
  · exact .refl s

theorem execReplyEnd_does {s t : State} (h : exec .replyEnd s = .next t) : Does .replyEnd s t := by
  obtain rfl := Host.Outcome.next.inj h
  refine Does.whenRunning ?_
  split
  · next r _ _ htr =>
    split
    · next hr => exact .inl ⟨.inl (by simp [State.restartWaiting, htr, hr]), resetNow_fresh _ s⟩
    · exact .of_line ⟨rfl, rfl⟩
  · exact .nothing _ s
  · exact .nothing _ s

theorem execReplyAbandoned_does {s t : State} (h : exec .replyAbandoned s = .next t) : Does .replyAbandoned s t := by
  obtain rfl := Host.Outcome.next.inj h
  refine Does.whenRunning ?_
  split
  · exact .beginFrame
  · exact .nothing _ s

theorem execNewFrameBegins_does {s t : State} (h : exec .newFrameBegins s = .next t) : Does .newFrameBegins s t := by
  obtain rfl := Host.Outcome.next.inj h
  refine Does.whenRunning ?_
  split
  · exact .beginFrame
  · exact .nothing _ s

/-- A pin takes a level (R135, R153, R166). -/
theorem execRawChange_does {p : PinId} {high : Bool} {s t : State} (h : exec (.rawChange p high) s = .next t) :
    Does (.rawChange p high) s t := by
  have strap : ∀ p, LineOnly s (setStrap p high s) := by
    intro p
    cases p with
    | input j => exact .refl s
    | addressStrap b => exact ⟨rfl, rfl⟩
    | speedStrap b => exact ⟨rfl, rfl⟩
  obtain rfl := Host.Outcome.next.inj h
  cases p with
  | input j =>
    dsimp only
    split
    · exact .nothing _ s
    · split
      · refine .of_rest (restFrame_of (by simp [pinMovesInReset]) (by simp [pinMovesInReset]) (by simp [pinMovesInReset])
          (fun _ => by simp [pinMovesInReset, Kept]) (fun _ => ⟨by simp [pinMovesInReset], by simp [pinMovesInReset]⟩)
          (fun _ => ⟨fun k => ?_, ?_⟩) (fun _ k => by simp [pinMovesInReset])
          (fun _ => ⟨fun n => by simp [pinMovesInReset], fun c => by simp [pinMovesInReset]⟩) (fun hp => absurd rfl hp))
        · simp only [pinMovesInReset, State.input_setInput]
          split
          · next e => rw [e]
          · rfl
        · cases j <;> exact ⟨rfl, rfl, rfl⟩
      · exact .of_deed (.rawChange j high)
  | addressStrap b => exact .of_line (strap (.addressStrap b))
  | speedStrap b => exact .of_line (strap (.speedStrap b))

/-- An event that acts under a condition. -/
theorem Does.ite {i : Instr} {s t : State} {c : Bool} (h : c = true → Deed i s t) :
    Does i s (Machine.whenRunning (fun _ => if c then t else s) s) := by
  refine Does.whenRunning ?_
  split
  · next hc => exact .of_deed (h hc)
  · exact .nothing i s

theorem execStopWalkEnd_does {a : AxisId} {s t : State} (h : exec (.stopWalkEnd a) s = .next t) :
    Does (.stopWalkEnd a) s t := by
  obtain rfl := Host.Outcome.next.inj h
  refine Does.whenRunning ?_
  split
  · next ht =>
    split
    · next c hc => exact .of_deed (.stopWalkEnd a c ht hc)
    · exact .nothing _ s
  · exact .nothing _ s

theorem Does.next {i : Instr} {s t u : State} (h : (Host.Outcome.next u : Host.Outcome State Fault Refusal) = .next t)
    (hd : Does i s u) : Does i s t := Host.Outcome.next.inj h ▸ hd

/-- What a step under a command can come to, for every command (R155 to R166 and the rules each deed cites). -/
theorem exec_does {i : Instr} {s t : State} (h : exec i s = .next t) : Does i s t := by
  cases i with
  | identify hd p => exact .next h (.order fun u v r hv => .noParams (.refl _ u) hv)
  | getStatus hd p => exact .next h (.order fun u v r hv => .noParams (.refl _ u) hv)
  | setLink hd p => exact .next h (.order fun u v r => orderSetLink_deed)
  | getLinkStats hd p => exact .next h (.order fun u v r => orderGetLinkStats_deed)
  | restart hd p => exact .next h (.order fun u v r hv => .noParams (.refl _ u) hv)
  | getTime hd p => exact .next h (.order fun u v r hv => .noParams (.refl _ u) hv)
  | setAxis hd p => exact .next h (.order fun u v r => orderSetAxis_deed)
  | getAxis hd p => exact .next h (.order fun u v r => orderGetAxis_deed)
  | enable hd p => exact .next h (.order fun u v r => orderEnable_deed)
  | disable hd p => exact .next h (.order fun u v r => orderDisable_deed)
  | setPosition hd p => exact .next h (.order fun u v r => orderSetPosition_deed)
  | getAxisState hd p => exact .next h (.order fun u v r => orderGetAxisState_deed)
  | resume hd p => exact .next h (.order fun u v r => orderResume_deed)
  | stop hd p => exact .next h (.order fun u v r => orderStop_deed)
  | queueSegment hd p => exact .next h (.order fun u v r => orderQueueSegment_deed)
  | flushQueue hd p => exact .next h (.order fun u v r => orderFlushQueue_deed)
  | peekQueue hd p => exact .next h (.order fun u v r => orderPeekQueue_deed)
  | defineProfile hd p => exact .next h (.order fun u v r => orderDefineProfile_deed)
  | readProfile hd p => exact .next h (.order fun u v r => orderReadProfile_deed)
  | dropProfile hd p => exact .next h (.order fun u v r => orderDropProfile_deed)
  | setTrigger hd p => exact .next h (.order fun u v r => orderSetTrigger_deed)
  | armTriggers hd p => exact .next h (.order fun u v r => orderArmTriggers_deed)
  | disarmTriggers hd p => exact .next h (.order fun u v r => orderDisarmTriggers_deed)
  | clearTriggers hd p => exact .next h (.order fun u v r => orderClearTriggers_deed)
  | readTrigger hd p => exact .next h (.order fun u v r => orderReadTrigger_deed)
  | setOutputs hd p => exact .next h (.order fun u v r => orderSetOutputs_deed)
  | pulseOutput hd p => exact .next h (.order fun u v r => orderPulseOutput_deed)
  | setOutputConfig hd p => exact .next h (.order fun u v r => orderSetOutputConfig_deed)
  | setPwm hd p => exact .next h (.order fun u v r => orderSetPwm_deed)
  | getPwm hd p => exact .next h (.order fun u v r => orderGetPwm_deed)
  | setInputConfig hd p => exact .next h (.order fun u v r => orderSetInputConfig_deed)
  | getIo hd p => exact .next h (.order fun u v r hv => .noParams (.refl _ u) hv)
  | discardReports hd p => exact .next h (.order fun u v r hv =>
      .noParams (w := discardReports u) (restFrame_reports u _ rfl) hv)
  | unknownOrder hd p =>
    refine .next h ?_
    split
    · exact .order fun u v r hv => nomatch hv
    · exact .nothing _ s
  | poll hd ack => exact execPoll_does h
  | ignoredFrame st c p => exact execIgnoredFrame_does h
  | checkFailure st c p checkA checkB =>
    refine .next h ?_
    split
    · exact .nothing _ s
    · exact .onFrame fun u => LineOnly.frame ⟨rfl, rfl⟩
  | escapeError b =>
    refine .next h ?_
    split
    · exact .nothing _ s
    · exact .of_line (abandonFrame_lineOnly _ _ s)
  | oversizeFrame len =>
    refine .next h ?_
    split
    · exact .of_line (abandonFrame_lineOnly _ _ s)
    · exact .nothing _ s
  | openingByteAbandonment => exact .next h (.of_line (abandonFrame_lineOnly _ _ s))
  | gapAbandonment => exact .next h (.of_line (abandonFrame_lineOnly _ _ s))
  | replyStart => exact execReplyStart_does h
  | replyEnd => exact execReplyEnd_does h
  | replyAbandoned => exact execReplyAbandoned_does h
  | linkLossEvent => exact .next h (.ite fun _ => .linkLoss)
  | powerOn b =>
    refine .next h (.inl ⟨.inr (.inl ⟨b, rfl⟩), ?_⟩)
    split
    · exact takeReset_fresh _ s
    · exact resetNow_fresh _ s
  | resetPin =>
    refine .next h ?_
    unfold whenRunning
    split
    · exact .nothing _ s
    · exact .inl ⟨.inr (.inr rfl), takeReset_fresh _ s⟩
  | resetComplete =>
    refine .next h ?_
    split
    · exact .of_rest (completeReset_frame _ s)
    · exact .nothing _ s
  | tick =>
    refine .next h (.whenRunning (.of_rest ?_))
    exact restFrame_of rfl rfl rfl (fun hu => absurd rfl hu) (fun _ => Kept.refl s .link) (fun _ => Kept.refl s .inputs)
      (fun _ => Kept.refl s .fields) (fun _ => Kept.refl s .outputs) (fun _ => Kept.refl s .pins)
  | dwellEnd a => exact .next h (.ite (.dwellEnd a))
  | inputTimeout a => exact .next h (.ite (.inputTimeout a))
  | pulseEnd n => exact .next h (.ite fun _ => .rest (setLevel_frame n false s))
  | filterAcceptance j => exact .next h (.ite (.filterAcceptance j))
  | rawChange p high => exact execRawChange_does h
  | stepIssue a => exact .next h (.whenRunning (.of_deed (.stepIssue a)))
  | stepPulseStart a => exact .next h (.whenRunning (.of_deed (.stepPulseStart a)))
  | stepPulseEnd a => exact .next h (.whenRunning (.of_deed (.stepPulseEnd a)))
  | tailIntervalExpiry a => exact .next h (.ite (.tailIntervalExpiry a))
  | stopWalkEnd a => exact execStopWalkEnd_does h
  | periodBoundary c => exact .next h (.ite fun _ => .rest (restFrame_setChannel s c _ rfl))
  | pwmDutyEnd c => exact .next h (.ite fun _ => .rest (restFrame_setChannel s c _ rfl))
  | newFrameBegins => exact execNewFrameBegins_does h

end Sys2Proof.Machine
end

section
/-! Every deed keeps the book of meetings, and the book is the invariant of the statement (O58). -/

namespace Sys2Proof.Machine

variable {s t : State} {a : AxisId}

/-! ### The orders of the axes and queues -/

theorem enableAxis_book (a : AxisId) (h : Book ∅ s) : Book ∅ (enableAxis a s) := by
  unfold enableAxis
  split
  · next hs =>
    have hw : (s.axis a).state ≠ .waiting := by simp [hs]
    split
    · exact hold_book (by simp) hw h
    · split
      · next hq => exact becomeIdle_book (by simpa using hq) hw h
      · exact hold_book (by simp) hw h
  · exact h

/-- An axis at rest that becomes DISABLED keeps queue and held cause (R45). -/
theorem disableAxis_book (a : AxisId) (h : Book ∅ s) : Book ∅ (disableAxis a s) := by
  have rest : (s.axis a).state = .idle ∨ (s.axis a).state = .held →
      Book ∅ (s.setAxis a { s.axis a with state := .disabled }) := by
    intro hs
    have hp := Axis.progress_of_rest (h.fits a (Set.notMem_empty a)) (.inr hs)
    refine h.setAxis_moving (by rcases hs with hs | hs <;> simp [hs]) (List.suffix_refl _) ?_ (.inl (by simp))
    simp [Axis.fits, hp]
  unfold disableAxis
  split
  · next hs => exact rest (.inl hs)
  · next hs => exact rest (.inr hs)
  · exact h
  · exact h
  · exact h
  · exact h

/-- Activation of an axis whose held cause has been cleared, or whose queue has grown, from a book that holds for the
others. -/
theorem activateHead_book (h : Book (insert a ∅) s) (hw : Away {a} s) : Book ∅ (activateHead a s) :=
  (activate_settles _ ∅ a s h (by simpa using hw) (still_empty s) (Set.notMem_empty a) (Nat.lt_succ_self _)).book

theorem resumeAxis_book (a : AxisId) (h : Book ∅ s) : Book ∅ (resumeAxis a s) := by
  unfold resumeAxis
  split
  · next hs =>
    have hw : (s.axis a).state ≠ .waiting := by simp [hs]
    split
    · next hq => exact becomeIdle_book (by simpa using hq) hw h
    · exact activateHead_book ((h.unsettle a).setAxis (Set.mem_insert a ∅) (List.suffix_refl _))
        ((h.away_of_not_waiting (Set.notMem_empty a) hw).congr rfl)
  · exact h

theorem flushQueue_book (hs : (s.axis a).state = .idle ∨ (s.axis a).state = .disabled) (h : Book ∅ s) :
    Book ∅ (flushQueue a s) := by
  have hf := h.fits a (Set.notMem_empty a)
  refine h.setAxis_moving (by rcases hs with hs | hs <;> simp [hs]) List.nil_suffix ?_
    (.inl (by rcases hs with hs | hs <;> simp [hs]))
  have hp := Axis.progress_of_rest hf (by rcases hs with hs | hs <;> simp [hs])
  unfold Axis.fits at hf ⊢
  split at hf <;> simp_all

/-- A flush of a HELD axis leaves it IDLE (R16, R74). -/
theorem flushHeld_book (hs : (s.axis a).state = .held) (h : Book ∅ s) : Book ∅ (becomeIdle a (flushQueue a s)) := by
  have e : becomeIdle a (flushQueue a s) =
      s.setAxis a { s.axis a with queue := [], state := .idle, heldCause := .none, progress := none } := by
    simp [becomeIdle, flushQueue, State.setAxis_setAxis]
  rw [e]
  exact h.setAxis_moving (by simp [hs]) List.nil_suffix (by simp [Axis.fits]) (.inr rfl)

theorem stopAxis_book (mode : StopMode) (flush : Bool) (a : AxisId) (h : Book ∅ s) :
    Book ∅ (stopAxis mode flush a s) := by
  unfold stopAxis
  split
  case h_1 | h_2 | h_3 => exact stopHeld_book _ (by simp [Cause.normal]) h
  case h_4 hs =>
    split
    · exact flushHeld_book hs h
    · exact h
  case h_5 => exact h
  case h_6 hs =>
    split
    · exact flushQueue_book (.inr hs) h
    · exact h

theorem flushAxis_held (hs : (s.axis a).state = .held) : flushAxis a s = becomeIdle a (flushQueue a s) := by
  simp [flushAxis, hs]

theorem flushAxis_not_held (hs : (s.axis a).state ≠ .held) : flushAxis a s = flushQueue a s := by
  unfold flushAxis
  split
  · next h => exact absurd h hs
  all_goals rfl

theorem flushAxis_other {b : AxisId} (hb : b ≠ a) : (flushAxis a s).axis b = s.axis b := by
  by_cases hs : (s.axis a).state = .held
  · rw [flushAxis_held hs]
    exact (State.axis_setAxis_ne _ a b _ hb).trans (State.axis_setAxis_ne s a b _ hb)
  · rw [flushAxis_not_held hs]
    exact State.axis_setAxis_ne s a b _ hb

/-- A flush of an axis that is not busy (R16). -/
theorem flushAxis_book (hb : (s.axis a).busy = false) (h : Book ∅ s) : Book ∅ (flushAxis a s) := by
  by_cases hs : (s.axis a).state = .held
  · rw [flushAxis_held hs]
    exact flushHeld_book hs h
  · rw [flushAxis_not_held hs]
    refine flushQueue_book ?_ h
    cases hst : (s.axis a).state <;> simp_all [Axis.busy]

/-- A flush of queues, none of them a busy axis's (R16). -/
theorem foldl_flushAxis_book (l : List AxisId) (hn : l.Nodup) (s : State) (hb : ∀ a ∈ l, (s.axis a).busy = false)
    (h : Book ∅ s) : Book ∅ (l.foldl (fun s a => flushAxis a s) s) := by
  induction l generalizing s with
  | nil => exact h
  | cons a l ih =>
    obtain ⟨ha, hn⟩ := List.nodup_cons.1 hn
    refine ih hn _ (fun b hm => ?_) (flushAxis_book (hb a (by simp)) h)
    have hba : b ≠ a := fun e => ha (e ▸ hm)
    rw [flushAxis_other hba]
    exact hb b (by simp [hm])

/-- A segment in range is appended to the queue of an axis that is not IDLE (R7). -/
theorem appendSegment_book {g : Segment} (hg : g.work.inRange a = true) (hs : (s.axis a).state ≠ .idle) (h : Book ∅ s) :
    Book ∅ (appendSegment a g s) := by
  have hf := h.fits a (Set.notMem_empty a)
  refine h.setAxis_alike (fun k hk => ?_) ?_ rfl ?_
  · rcases List.mem_append.1 hk with hk | hk
    · exact List.all_eq_true.1 (h.segments a) k hk
    · rw [List.mem_singleton.1 hk]; exact hg
  · unfold Axis.fits at hf ⊢
    split at hf <;> simp_all
  · unfold Axis.fits at hf
    split at hf <;> simp_all [Axis.active]

theorem segmentsInRange_append {g : Segment} (hg : g.work.inRange a = true) (h : s.SegmentsInRange) :
    (appendSegment a g s).SegmentsInRange := by
  intro b
  unfold appendSegment
  rw [State.axis_setAxis]
  split
  · next e => subst e; simpa [hg] using h b
  · exact h b

/-- A segment in range is appended to the queue of an IDLE axis, and activated (R13). -/
theorem appendActivate_book {g : Segment} (hg : g.work.inRange a = true) (hs : (s.axis a).state = .idle) (h : Book ∅ s) :
    Book ∅ (activateHead a (appendSegment a g s)) := by
  have hb : Book (insert a ∅) (appendSegment a g s) :=
    (h.unsettle a).congr (segmentsInRange_append hg h.segments)
      (fun b hb => State.axis_setAxis_ne s a b _ fun e => hb (by simp [e])) rfl
  exact activateHead_book hb ((h.away_of_not_waiting (Set.notMem_empty a) (by simp [hs])).congr rfl)

/-! ### Link loss and pulses -/

theorem linkLossAtAxis_book (a : AxisId) (h : Book ∅ s) : Book ∅ (linkLossAtAxis a s) := by
  unfold linkLossAtAxis
  split
  · exact stopHeld_book _ (by simp) h
  · exact stopHeld_book _ (by simp) h
  · exact h

theorem outputsAtLoss_book (h : Book ∅ s) : Book ∅ (outputsAtLoss s) := by
  refine foldl_book _ (fun s c h => ?_) _ _ (foldl_book _ (fun s n h => ?_) _ s h)
  · exact h.of_eq rfl rfl
  · exact h.of_eq rfl rfl

theorem loseLink_book (h : Book ∅ s) : Book ∅ (loseLink s) := by
  unfold loseLink
  extract_lets l u
  have hu : Book ∅ u := h.of_eq rfl rfl
  obtain ⟨n, e⟩ := (drawOrder_spec (linkLossReceivers u) u).2
  generalize drawOrder (linkLossReceivers u) u = d at e
  obtain ⟨order, v⟩ := d
  obtain rfl : v = _ := e
  refine foldl_book _ (fun s r h => ?_) order _ (hu.of_eq rfl rfl)
  cases r with
  | engine a => exact linkLossAtAxis_book a h
  | queue => exact h.of_eq rfl rfl
  | outputs =>
    dsimp only [takeLinkLoss]
    exact outputsAtLoss_book h

theorem pulseStart_same (x : Axis) : x.pulseStart.state = x.state ∧ x.pulseStart.heldCause = x.heldCause ∧
    x.pulseStart.queue = x.queue ∧ x.pulseStart.progress = x.progress ∧ x.pulseStart.config = x.config := by
  unfold Axis.pulseStart
  split <;> exact ⟨rfl, rfl, rfl, rfl, rfl⟩

theorem pulseEnd_same (x : Axis) : x.pulseEnd.state = x.state ∧ x.pulseEnd.heldCause = x.heldCause ∧
    x.pulseEnd.queue = x.queue ∧ x.pulseEnd.progress = x.progress ∧ x.pulseEnd.config = x.config := by
  unfold Axis.pulseEnd
  split <;> exact ⟨rfl, rfl, rfl, rfl, rfl⟩

/-! ### Every step keeps the book -/

theorem deed_book {i : Instr} (h : Deed i s t) (hb : Book ∅ s) : Book ∅ t := by
  cases h with
  | rest h => exact hb.of_eq h.axes h.joins
  | setAxis a c => exact hb.setAxis_same rfl rfl rfl rfl
  | enable m => exact foldl_book _ (fun s a h => enableAxis_book a h) _ _ hb
  | disable m => exact foldl_book _ (fun s a h => disableAxis_book a h) _ _ hb
  | setPosition a x => exact hb.setAxis_same rfl rfl rfl rfl
  | resume order n => exact foldl_book _ (fun s a h => resumeAxis_book a h) _ _ (hb.of_eq rfl rfl)
  | stop mode flush order n => exact foldl_book _ (fun s a h => stopAxis_book mode flush a h) _ _ (hb.of_eq rfl rfl)
  | queueSegment a g hg hn hf =>
    split
    · next hs => exact appendActivate_book hg hs hb
    · next hs => exact appendSegment_book hg hs hb
  | flushQueue m hm => exact foldl_flushAxis_book _ (nodup_axesOf m) s hm hb
  | defineProfile k l => exact hb.of_eq rfl rfl
  | dropProfile k => exact hb.of_eq rfl rfl
  | setInputConfig c => exact applyInputConfig_book c hb
  | linkLoss => exact loseLink_book hb
  | dwellEnd a => exact endSegment_book _ (hb.unsettle a)
  | inputTimeout a => exact endHeld_book _ (hb.unsettle a)
  | filterAcceptance j => exact acceptRaw_book j hb
  | rawChange j high => exact pinTakes_book j high hb
  | stepIssue a => exact (issueStep_settles a).book hb
  | stepPulseStart a =>
    obtain ⟨h1, h2, h3, h4, -⟩ := pulseStart_same (s.axis a)
    exact hb.setAxis_same h1 h2 h3 h4
  | stepPulseEnd a =>
    obtain ⟨h1, h2, h3, h4, -⟩ := pulseEnd_same (s.axis a)
    exact hb.setAxis_same h1 h2 h3 h4
  | tailIntervalExpiry a => exact endSegment_book _ (hb.unsettle a)
  | stopWalkEnd a c => exact endSegment_book _ (hb.unsettle a)

theorem fresh_axis (h : FreshBlocks t) (a : AxisId) : t.axis a = .reset := by
  rw [State.axis, h.axes, Fin.getElem_fin, Vector.getElem_replicate]

theorem fresh_book (h : FreshBlocks t) : Book ∅ t where
  segments a := by rw [fresh_axis h]; rfl
  fits a _ := by rw [fresh_axis h]; rfl
  tokens := by rw [h.joins]; exact List.nodup_nil
  sound r hr := by rw [h.joins] at hr; cases hr
  waits a _ r hr := by rw [h.joins] at hr; cases hr
  arrived a _ hj := by rw [fresh_axis h] at hj; cases hj

theorem does_book {i : Instr} (h : Does i s t) (hb : Book ∅ s) : Book ∅ t := by
  obtain ⟨-, hf⟩ | ⟨u, v, hu, hd, hv⟩ := h
  · exact fresh_book hf
  · exact (deed_book hd (hb.of_eq hu.frame.axes hu.frame.joins)).of_eq hv.frame.axes hv.frame.joins

/-! ### The book and the invariant of the statement -/

/-- An axis WAITING on a JOIN is arrived in one record (R97). -/
theorem Book.length_here (h : Book ∅ s) (hw : (s.axis a).waitingOnJoin = true) :
    (s.joins.filter fun r => r.here a).length = 1 := by
  obtain ⟨r, hr, hh⟩ := h.arrived a (Set.notMem_empty a) hw
  have hperm : (s.joins.filter fun r => r.here a).Perm [r] := by
    refine (List.perm_ext_iff_of_nodup (h.tokens.of_map.filter _) (List.nodup_singleton r)).2 fun q => ?_
    rw [List.mem_filter, List.mem_singleton]
    constructor
    · rintro ⟨hq, hqa⟩
      exact h.unique (Set.notMem_empty a) hq hr hqa hh
    · rintro rfl
      exact ⟨hr, hh⟩
  simpa using hperm.length_eq

/-- Every open record has an axis of its own arrived, so there are at most four (R97). -/
theorem Book.length_joins (h : Book ∅ s) : s.joins.length ≤ 4 := by
  have hex : ∀ r ∈ s.joins, ∃ a, r.here a = true := fun r hr => (JoinRecord.sound_iff.1 (h.sound r hr)).2.1
  choose! who hwho using hex
  have hinj : ∀ r ∈ s.joins, ∀ q ∈ s.joins, who r = who q → r = q := fun r hr q hq e =>
    h.unique (Set.notMem_empty (who r)) hr hq (hwho r hr) (e ▸ hwho q hq)
  have hnd : (s.joins.map who).Nodup := List.Nodup.map_on (fun r hr q hq e => hinj r hr q hq e) h.tokens.of_map
  simpa using hnd.length_le_card

/-- A book of all axes is the invariant of segments, axes and meetings. -/
theorem book_iff : Book ∅ s ↔ s.SegmentsInRange ∧ s.AxesFit ∧ s.JoinsSound := by
  constructor
  · intro h
    exact ⟨h.segments, fun a => h.fits a (Set.notMem_empty a), h.length_joins, h.tokens, h.sound,
      fun a r hr hh => h.waits a (Set.notMem_empty a) r hr hh, fun a hw => h.length_here hw⟩
  · rintro ⟨hs, hf, -, ht, hr, hw, ha⟩
    refine ⟨hs, fun a _ => hf a, ht, hr, fun a _ r hr hh => hw a r hr hh, fun a _ hj => ?_⟩
    obtain ⟨r, hr⟩ := List.exists_mem_of_length_pos (l := s.joins.filter fun r => r.here a) (by rw [ha a hj]; omega)
    exact ⟨r, List.mem_of_mem_filter hr, (List.mem_filter.1 hr).2⟩

/-- A step runs the command at the front, or nothing. -/
theorem step_cases (h : step s = .next t) :
    t = s ∨ ∃ c rest, exec c { s with pending := rest } = .next t := by
  unfold step at h
  split at h
  · exact .inl (Host.Outcome.next.inj h).symm
  · next c rest _ => exact .inr ⟨c, rest, h⟩

/-- Settles O58: the book of meetings with no axis left out of it is kept by every deed, and is the statement's invariant.
Inside an operation the axes that are between two segments are left out, and each end and activation settles its own. -/
theorem axesAndMeetingsStaySound : Obligations.AxesAndMeetingsStaySound := by
  intro s t hs h
  have hb := book_iff.2 hs
  obtain rfl | ⟨c, rest, he⟩ := step_cases h
  · exact hs
  · exact book_iff.1 (does_book (exec_does he) (hb.of_eq rfl rfl))

end Sys2Proof.Machine
end

section
/-! What the operations of the engines are made of, said once: each is a run of elementary changes, so that what every
elementary change keeps, every operation keeps. -/

namespace Sys2Proof.Machine

/-- The profile of the walk an axis is STOPPING on (R22 case 2, R35). -/
def Axis.walked (x : Axis) : Option ProfileId :=
  if x.state = .stopping then x.progress.bind Progress.walkProfile else none

/-- The elementary changes that the operations of the engines, the triggers, the outputs and the input filters are made
of. An axis keeps its configuration, its queue only loses segments from its head, and a walk is taken from a profile that
is DEFINED. -/
inductive Move (s : State) : State → Prop where
  | axis (a : AxisId) (x : Axis) (hc : x.config = (s.axis a).config) (hq : x.queue <:+ (s.axis a).queue)
      (hw : ∀ k, x.walked = some k → (s.axis a).walked = some k ∨ s.profile k ≠ []) : Move s (s.setAxis a x)
  | book (j : List JoinRecord) (n : Nat) : Move s { s with joins := j, freeCount := n }
  | report (b : ReportBody) : Move s (admitReport b s)
  | fired (i : Fin 24) (f : TriggerFields) (hf : (s.trigger i).fields = some f) :
      Move s (s.setTrigger i ((s.trigger i).fired f))
  | armed (i : Fin 24) : Move s (armSlot i s)
  | output (n : Fin 8) (o : OutputRecord) (ha : o.activeLow = (s.output n).activeLow)
      (hl : o.lossLevel = (s.output n).lossLevel) : Move s (s.setOutput n o)
  | duty (c : Fin 2) (d : Nat) (hd : ∃ i f, (s.trigger i).fields = some f ∧ f.action = .pwmDuty c d) :
      Move s (s.setChannel c ((s.channel c).writeDuty d))
  | channelLoss (c : Fin 2) : Move s (s.setChannel c (s.channel c).atLoss)
  | input (i : InputId) (r : InputRecord) (ha : r.activeHigh = (s.input i).activeHigh)
      (hp : r.pinHigh = (s.input i).pinHigh) : Move s (s.setInput i r)
  | line (l : LineInterface) (hl : l.timeout = s.line.timeout) : Move s { s with line := l }

/-- A run of elementary changes. -/
abbrev Moves : State → State → Prop := Relation.ReflTransGen Move

theorem Move.moves {s t : State} (h : Move s t) : Moves s t := .single h

theorem foldl_moves {α : Type} (f : State → α → State) (hf : ∀ s x, Moves s (f s x)) (l : List α) (s : State) :
    Moves s (l.foldl f s) :=
  List.foldlRecOn l f .refl fun t h x _ => h.trans (hf t x)

theorem drawOrder_moves {α : Type} (l : List α) (s : State) : Moves s (drawOrder l s).2 := by
  obtain ⟨n, e⟩ := (drawOrder_spec l s).2
  rw [e]
  exact (Move.book s.joins n).moves

variable {s t : State} {a : AxisId}

/-! ### Ends that hold an axis -/

theorem Axis.walked_eq_none {x : Axis} (h : x.state ≠ .stopping ∨ x.progress = none) : x.walked = none := by
  unfold Axis.walked
  split
  · rcases h with h | h
    · contradiction
    · simp [h]
  · rfl

/-- A write of an axis that then takes no walk. -/
theorem setAxis_moves {x : Axis} (hc : x.config = (s.axis a).config) (hq : x.queue <:+ (s.axis a).queue)
    (hw : x.state ≠ .stopping ∨ x.progress = none) : Moves s (s.setAxis a x) :=
  (Move.axis a x hc hq fun k hk => by simp [Axis.walked_eq_none hw] at hk).moves

/-- A write of an axis that keeps its walk. -/
theorem setAxis_moves_same {x : Axis} (hc : x.config = (s.axis a).config) (hq : x.queue <:+ (s.axis a).queue)
    (hw : x.walked = (s.axis a).walked) : Moves s (s.setAxis a x) :=
  (Move.axis a x hc hq fun _ hk => .inl (hw ▸ hk)).moves

theorem hold_moves (a : AxisId) (c : HeldCause) (s : State) : Moves s (hold a c s) :=
  setAxis_moves rfl (List.suffix_refl _) (.inr rfl)

theorem becomeIdle_moves (a : AxisId) (s : State) : Moves s (becomeIdle a s) :=
  setAxis_moves rfl (List.suffix_refl _) (.inr rfl)

theorem flushQueue_moves (a : AxisId) (s : State) : Moves s (flushQueue a s) :=
  setAxis_moves_same rfl List.nil_suffix rfl

theorem leaveByEstop_moves (a : AxisId) (s : State) : Moves s (leaveByEstop a s) :=
  setAxis_moves rfl (List.suffix_refl _) (.inr rfl)

theorem settle_moves (a : AxisId) (c : Cause) (f : Bool) (s : State) : Moves s (settle a c f s) := by
  unfold settle
  split
  · exact leaveByEstop_moves a s
  · split
    · exact becomeIdle_moves a s
    · exact hold_moves a _ s

theorem closeSegment_moves (a : AxisId) (c : Cause) (s : State) : Moves s (closeSegment a c s) := by
  obtain ⟨-, e⟩ | ⟨g, rest, hq, e⟩ := closeSegment_spec a c s
  · rw [e]
  · have h1 : Moves s (s.setAxis a { s.axis a with
        queue := if (s.axis a).flushPending then [] else rest
        lastEnd := some (endRecordOf (s.axis a) g rest c), progress := none }) := by
      refine setAxis_moves rfl ?_ (.inr rfl)
      rw [hq]
      dsimp only
      split
      · exact List.nil_suffix
      · exact List.suffix_cons g rest
    rw [e]
    dsimp only
    split
    · exact h1.trans (Move.report _).moves
    · exact h1

theorem withdraw_moves (a : AxisId) (s : State) : Moves s (withdraw a s) := (Move.book _ s.freeCount).moves

theorem endBroken_moves {search : AxisId → State → State} (hs : ∀ a s, Moves s (search a s)) (b : AxisId) (s : State) :
    Moves s (endBroken search b s) := by
  unfold endBroken
  split
  · exact (closeSegment_moves b _ s).trans ((withdraw_moves b _).trans ((hs b _).trans (settle_moves b _ _ _)))
  · exact .refl

theorem breakRecord_moves {search : AxisId → State → State} (hs : ∀ a s, Moves s (search a s)) (token : Nat)
    (s : State) : Moves s (breakRecord search token s) := by
  unfold breakRecord
  split
  · exact .refl
  · exact (Move.book _ s.freeCount).moves.trans (foldl_moves _ (fun s b => endBroken_moves hs b s) _ _)

theorem breakSearch_moves (fuel : Nat) (a : AxisId) (s : State) : Moves s (breakSearch fuel a s) := by
  induction fuel generalizing a s with
  | zero => exact .refl
  | succ fuel ih =>
    unfold breakSearch
    exact (drawOrder_moves _ s).trans (foldl_moves _ (fun s t => breakRecord_moves ih t s) _ _)

theorem notifyJoins_moves (a : AxisId) (c : Cause) (s : State) : Moves s (notifyJoins a c s) := by
  unfold notifyJoins
  dsimp only
  split
  · exact (withdraw_moves a s).trans (breakSearch_moves _ a _)
  · exact withdraw_moves a s

theorem endHeld_moves (a : AxisId) (c : Cause) (s : State) : Moves s (endHeld a c s) :=
  (closeSegment_moves a c s).trans ((notifyJoins_moves a c _).trans (settle_moves a c _ _))

/-- A walk of no stages has no legs (R33). -/
theorem walkLegs_nil (c : Nat) (p : Progress) : walkLegs [] c p = [] := by
  unfold walkLegs
  split <;> simp [walkStages, usedStages, takeSteps, legsOf]

/-- A stop request, whatever ends the segment: a new walk is taken from a profile with stages. -/
theorem applyStop_moves {ender : AxisId → Cause → State → State} (he : ∀ a c s, Moves s (ender a c s)) (a : AxisId)
    (c : Cause) (m : StopMode) (f : Bool) (s : State) : Moves s (applyStop ender a (stopEffect s a c m f) s) := by
  obtain ⟨-, e⟩ | ⟨g, p, hact, hcase⟩ := stopEffect_cases s a c m f
  · rw [e]
    exact .refl
  · obtain ⟨-, -, hp⟩ := Axis.active_eq_some hact
    rcases hcase with ⟨c', e⟩ | ⟨-, k, l, ls, hl, e⟩ | ⟨hs, e⟩
    · rw [e]
      refine (setAxis_moves_same ?_ ?_ ?_).trans (he a c' _)
      · rfl
      · exact List.suffix_refl _
      · simp [Axis.walked, hp]
    · rw [e]
      refine Move.moves (Move.axis a _ ?_ ?_ fun k' hk => .inr ?_)
      · rfl
      · exact List.suffix_refl _
      obtain rfl : k = k' := by simpa [Axis.walked] using hk
      intro h0
      rw [h0, walkLegs_nil] at hl
      cases hl
    · rw [e]
      exact setAxis_moves_same rfl (List.suffix_refl _) (by simp [Axis.walked, hp, hs])

theorem stopHeld_moves (a : AxisId) (c : Cause) (m : StopMode) (f : Bool) (s : State) : Moves s (stopHeld a c m f s) :=
  applyStop_moves endHeld_moves a c m f s

/-! ### Triggers and steps -/

/-- The action of a trigger whose slot has these fields. -/
theorem applyAction_moves {i : Fin 24} {f : TriggerFields} (hf : (s.trigger i).fields = some f) :
    Moves s (applyAction f.action s) := by
  cases ha : f.action with
  | outSet n => exact (Move.output n _ (by rfl) (by rfl)).moves
  | outClear n => exact (Move.output n _ (by rfl) (by rfl)).moves
  | outPulse n w => exact (Move.output n _ (by rfl) (by rfl)).moves
  | pwmDuty c d => exact (Move.duty c d ⟨i, f, hf, ha⟩).moves
  | stopAxis k m => exact stopHeld_moves k _ m _ s
  | armSlot m => exact (Move.armed m).moves
  | note => exact .refl

theorem fireSlot_moves (p : Position) (i : Fin 24) (s : State) : Moves s (fireSlot p i s) := by
  unfold fireSlot
  split
  · exact .refl
  · next f hf =>
    extract_lets t u v
    have hu : Moves s u := (Move.fired i f hf).moves
    have hv : Moves s v := by
      unfold v
      split
      · exact hu.trans (Move.report _).moves
      · exact hu
    have hfields : (v.trigger i).fields = some f := by
      unfold v
      split <;> simpa [u, t, TriggerSlot.fired] using hf
    exact hv.trans (applyAction_moves hfields)

theorem fireAll_moves (p : Position) (set : List (Fin 24)) (s : State) : Moves s (fireAll p set s) :=
  foldl_moves _ (fun s i => fireSlot_moves p i s) set s

theorem zoneRequest_moves (a : AxisId) (s : State) : Moves s (zoneRequest a s) := by
  unfold zoneRequest
  split
  · exact stopHeld_moves a _ _ _ s
  · exact .refl

theorem limitRequest_moves (met : Bool) (a : AxisId) (s : State) : Moves s (limitRequest met a s) := by
  unfold limitRequest
  split
  · exact stopHeld_moves a _ _ _ s
  · exact .refl

theorem afterStep_moves (a : AxisId) (d : Direction) (s : State) : Moves s (afterStep a d s) := by
  have hn : Moves s { s with freeCount := s.freeCount + 1 } := (Move.book s.joins _).moves
  unfold afterStep
  dsimp only
  split
  · split
    · exact zoneRequest_moves a s
    · split
      · exact hn.trans ((zoneRequest_moves _ _).trans ((fireAll_moves _ _ _).trans (limitRequest_moves _ _ _)))
      · split
        · exact hn.trans ((fireAll_moves _ _ _).trans ((zoneRequest_moves _ _).trans (limitRequest_moves _ _ _)))
        · exact hn.trans ((fireAll_moves _ _ _).trans ((limitRequest_moves _ _ _).trans (zoneRequest_moves _ _)))
  · exact (fireAll_moves _ _ _).trans (limitRequest_moves _ _ _)

theorem issueStep_moves (a : AxisId) (s : State) : Moves s (issueStep a s) := by
  unfold issueStep
  split
  · exact .refl
  · next g p hact =>
    split
    · exact .refl
    · next l q hq =>
      obtain ⟨-, -, hp⟩ := Axis.active_eq_some hact
      have hw : q.walkProfile = p.walkProfile := by
        obtain ⟨-, t, -, rfl⟩ | ⟨-, w, t, -, -, rfl⟩ := nextStep_cases hq <;> rfl
      have h1 : Moves s (issue a l q s) :=
        setAxis_moves_same rfl (List.suffix_refl _) (by simp [Axis.walked, hp, hw])
      exact h1.trans (afterStep_moves a _ _)

/-! ### Activation and ends that lead on -/

theorem startMotion_moves (a : AxisId) (d : Direction) (n : Option Nat) (l : List Leg) (s : State) :
    Moves s (startMotion a d n l s) := by
  unfold startMotion
  refine (setAxis_moves ?_ ?_ (.inl (by simp))).trans (issueStep_moves a _)
  · exact turn_config _ d
  · simp [turn_queue]

theorem startWait_moves (a : AxisId) (l : Option Uptime) (s : State) : Moves s (startWait a l s) :=
  setAxis_moves rfl (List.suffix_refl _) (.inl (by simp))

theorem activate_moves (fuel : Nat) (a : AxisId) (s : State) : Moves s (activate fuel a s) := by
  induction fuel generalizing a s with
  | zero => exact .refl
  | succ fuel ih =>
    unfold activate
    split
    · exact becomeIdle_moves a s
    · split
      · exact hold_moves a _ s
      · split
        · exact hold_moves a _ s
        · split
          · split
            · exact (closeSegment_moves a _ s).trans (ih a _)
            · exact endHeld_moves a _ s
          · exact startMotion_moves a _ _ _ s
          · exact startWait_moves a _ s
          · next token members _ =>
            obtain h | ⟨l, h⟩ | ⟨l, h⟩ := arrive_joins a token members s
            · simp only [h]
              exact endHeld_moves a _ s
            · simp only [h]
              exact (Move.book l s.freeCount).moves.trans (startWait_moves a _ _)
            · simp only [h]
              exact (Move.book l s.freeCount).moves.trans
                ((foldl_moves _ (fun s b => closeSegment_moves b _ s) _ _).trans (foldl_moves _ (fun s b => ih b s) _ _))

theorem activateHead_moves (a : AxisId) (s : State) : Moves s (activateHead a s) := activate_moves _ a s

theorem endSegment_moves (a : AxisId) (c : Cause) (s : State) : Moves s (endSegment a c s) := by
  unfold endSegment
  split
  · exact (closeSegment_moves a c s).trans ((notifyJoins_moves a c _).trans (activateHead_moves a _))
  · exact endHeld_moves a c s

theorem stopSegment_moves (a : AxisId) (c : Cause) (m : StopMode) (f : Bool) (s : State) :
    Moves s (stopSegment a c m f s) :=
  applyStop_moves endSegment_moves a c m f s

/-! ### Changes of accepted levels -/

theorem limitChanged_moves (a : AxisId) (d : Direction) (s : State) : Moves s (limitChanged a d s) := by
  unfold limitChanged
  split
  · split
    · exact stopHeld_moves a _ _ _ s
    · exact .refl
  · exact .refl

theorem slowChanged_moves (a : AxisId) (s : State) : Moves s (slowChanged a s) := by
  unfold slowChanged
  split
  · split
    · split
      · exact stopSegment_moves a _ _ _ s
      · split
        · exact stopHeld_moves a _ _ _ s
        · exact .refl
    · exact .refl
  · exact .refl

theorem homeChanged_moves (a : AxisId) (s : State) : Moves s (homeChanged a s) := by
  unfold homeChanged
  split
  · next g p hact =>
    obtain ⟨-, -, hp⟩ := Axis.active_eq_some hact
    split
    · split
      · exact .refl
      · refine (setAxis_moves_same ?_ ?_ ?_).trans (stopSegment_moves a _ _ _ _)
        · rfl
        · exact List.suffix_refl _
        · simp [Axis.walked, hp]
    · exact .refl
  · exact .refl

theorem alarmChanged_moves (a : AxisId) (s : State) : Moves s (alarmChanged a s) := by
  unfold alarmChanged
  split
  case h_1 | h_2 | h_3 => exact stopHeld_moves a _ _ _ s
  case h_4 | h_5 => exact hold_moves a _ s
  case h_6 => exact .refl

theorem estopAtAxis_moves (a : AxisId) (s : State) : Moves s (estopAtAxis a s) := by
  unfold estopAtAxis
  split
  case h_1 | h_2 | h_3 => exact stopHeld_moves a _ _ _ s
  case h_4 | h_5 => exact leaveByEstop_moves a s
  case h_6 => exact .refl

theorem generalAtAxis_moves (i : Fin 4) (level : Bool) (a : AxisId) (s : State) : Moves s (generalAtAxis i level a s) := by
  unfold generalAtAxis
  split
  · split
    · split
      · exact endSegment_moves a _ s
      · exact .refl
    · exact .refl
  · exact .refl

theorem handOn_moves (i : InputId) (level : Bool) (s : State) : Moves s (handOn i level s) := by
  unfold handOn
  split
  · split
    · split
      · exact limitChanged_moves _ _ s
      · exact limitChanged_moves _ _ s
      · exact slowChanged_moves _ s
      · exact homeChanged_moves _ s
      · exact alarmChanged_moves _ s
    · exact .refl
  · refine (drawOrder_moves _ s).trans (foldl_moves _ (fun s r => ?_) _ _)
    cases r with
    | engine a => exact generalAtAxis_moves _ _ a s
    | queue => exact (Move.report _).moves
    | outputs => exact .refl
  · split
    · refine (drawOrder_moves _ s).trans (foldl_moves _ (fun s r => ?_) _ _)
      cases r with
      | engine a => exact estopAtAxis_moves a s
      | queue => exact (Move.report _).moves
      | outputs => exact .refl
    · exact (Move.report _).moves

theorem acceptRaw_moves (i : InputId) (s : State) : Moves s (acceptRaw i s) :=
  (Move.input i _ (by rfl) (by rfl)).moves.trans (handOn_moves _ _ _)

theorem filterRaw_moves (i : InputId) (s : State) : Moves s (filterRaw i s) := by
  unfold filterRaw
  dsimp only
  split
  · exact (Move.input i _ (by rfl) (by rfl)).moves
  · split
    · exact acceptRaw_moves i s
    · exact (Move.input i _ (by rfl) (by rfl)).moves

theorem restartFilter_moves (i : InputId) (s : State) : Moves s (restartFilter i s) := by
  unfold restartFilter
  dsimp only
  split
  · exact .refl
  · split
    · exact acceptRaw_moves i s
    · exact (Move.input i _ (by rfl) (by rfl)).moves

/-! ### Link loss, and the orders that treat axes one by one -/

theorem linkLossAtAxis_moves (a : AxisId) (s : State) : Moves s (linkLossAtAxis a s) := by
  unfold linkLossAtAxis
  split
  · exact stopHeld_moves a _ _ _ s
  · exact stopHeld_moves a _ _ _ s
  · exact .refl

theorem OutputRecord.atLoss_same (o : OutputRecord) :
    o.atLoss.activeLow = o.activeLow ∧ o.atLoss.lossLevel = o.lossLevel := by
  unfold OutputRecord.atLoss
  split <;> exact ⟨rfl, rfl⟩

theorem outputsAtLoss_moves (s : State) : Moves s (outputsAtLoss s) := by
  refine (foldl_moves _ (fun s n => ?_) _ s).trans (foldl_moves _ (fun s c => ?_) _ _)
  · exact (Move.output n _ (OutputRecord.atLoss_same _).1 (OutputRecord.atLoss_same _).2).moves
  · exact (Move.channelLoss c).moves

theorem loseLink_moves (s : State) : Moves s (loseLink s) := by
  unfold loseLink
  extract_lets l u
  have hu : Moves s u := (Move.line _ (by rfl)).moves
  refine hu.trans ((drawOrder_moves (linkLossReceivers u) u).trans (foldl_moves _ (fun s r => ?_) _ _))
  cases r with
  | engine a => exact linkLossAtAxis_moves a s
  | queue => exact (Move.report _).moves
  | outputs =>
    dsimp only [takeLinkLoss]
    exact outputsAtLoss_moves s

theorem enableAxis_moves (a : AxisId) (s : State) : Moves s (enableAxis a s) := by
  unfold enableAxis
  split
  · split
    · exact hold_moves a _ s
    · split
      · exact becomeIdle_moves a s
      · exact hold_moves a _ s
  · exact .refl

theorem disableAxis_moves (a : AxisId) (s : State) : Moves s (disableAxis a s) := by
  unfold disableAxis
  split
  case h_1 | h_2 => exact setAxis_moves rfl (List.suffix_refl _) (.inl (by simp))
  all_goals exact .refl

theorem resumeAxis_moves (a : AxisId) (s : State) : Moves s (resumeAxis a s) := by
  unfold resumeAxis
  split
  · split
    · exact becomeIdle_moves a s
    · refine Relation.ReflTransGen.trans (setAxis_moves ?_ ?_ ?_) (activateHead_moves a _)
      · rfl
      · exact List.suffix_refl _
      · exact .inl (by simp_all)
  · exact .refl

theorem stopAxis_moves (mode : StopMode) (flush : Bool) (a : AxisId) (s : State) : Moves s (stopAxis mode flush a s) := by
  unfold stopAxis
  split
  case h_1 | h_2 | h_3 => exact stopHeld_moves a _ _ _ s
  case h_4 =>
    split
    · exact (flushQueue_moves a s).trans (becomeIdle_moves a _)
    · exact .refl
  case h_5 => exact .refl
  case h_6 =>
    split
    · exact flushQueue_moves a s
    · exact .refl

theorem flushAxis_moves (a : AxisId) (s : State) : Moves s (flushAxis a s) := by
  unfold flushAxis
  split
  · exact (flushQueue_moves a s).trans (becomeIdle_moves a _)
  all_goals exact flushQueue_moves a s

theorem Axis.walked_pulseStart (x : Axis) : x.pulseStart.walked = x.walked := by
  obtain ⟨hs, -, -, hp, -⟩ := pulseStart_same x
  simp [Axis.walked, hs, hp]

theorem Axis.walked_pulseEnd (x : Axis) : x.pulseEnd.walked = x.walked := by
  obtain ⟨hs, -, -, hp, -⟩ := pulseEnd_same x
  simp [Axis.walked, hs, hp]

/-! ### What every elementary change keeps -/

theorem Move.kept (h : Move s t) (x : Setting) : Kept s t x := by
  have whole : RestFrame none s t → Kept s t x := fun h => h.kept x (by simp)
  cases h with
  | axis a y hc hq =>
    cases x with
    | config =>
      intro b
      rw [State.axis_setAxis]
      split
      · next e => rw [e]; exact hc
      · rfl
    | queues =>
      intro b
      rw [State.axis_setAxis]
      split
      · next e => rw [e]; exact hq
      · exact List.suffix_refl _
    | profiles => exact Kept.refl s .profiles
    | uptime => exact Kept.refl s .uptime
    | link => exact Kept.refl s .link
    | inputs => exact Kept.refl s .inputs
    | fields => exact Kept.refl s .fields
    | outputs => exact Kept.refl s .outputs
    | pins => exact Kept.refl s .pins
  | book j n =>
    have same := Kept.refl s x
    cases x <;> exact same
  | report b => exact whole (admitReport_restFrame b s)
  | fired i f hf => exact whole (restFrame_setTrigger s i _ rfl)
  | armed i =>
    unfold armSlot
    split
    case h_1 | h_2 => exact (restFrame_setTrigger s i _ (by rfl)).kept x (by simp)
    case h_3 | h_4 => exact Kept.refl s x
  | output n o ha hl => exact whole (restFrame_setOutput s n o ha hl)
  | duty c d =>
    refine whole (restFrame_setChannel s c _ ?_)
    unfold PwmChannel.writeDuty
    split
    · split <;> rfl
    · rfl
  | channelLoss c =>
    refine whole (restFrame_setChannel s c _ ?_)
    unfold PwmChannel.atLoss
    split
    · split <;> rfl
    · rfl
  | input i r ha hp => exact whole (restFrame_setInput s i r ha hp)
  | line l hl => exact whole (LineOnly.frame ⟨hl, rfl⟩)

theorem Moves.kept (h : Moves s t) (x : Setting) : Kept s t x := by
  induction h with
  | refl => exact .refl s x
  | tail _ hm ih => exact ih.trans (hm.kept x)

end Sys2Proof.Machine
end

section
/-! Every deed as one write of its own, if it has one, followed by elementary changes and by writes of its own setting; and
what follows for the settings (O3) and for the pool and the profiles (O55). -/

namespace Sys2Proof.Machine

variable {i : Instr} {s t u : State} {a : AxisId}

/-! ### What a deed is made of -/

/-- A run of elementary changes and of changes of the one setting `o`. -/
abbrev Runs (o : Option Setting) : State → State → Prop := Relation.ReflTransGen fun s t => RestFrame o s t ∨ Move s t

theorem Runs.of_frame {o : Option Setting} (h : RestFrame o s t) : Runs o s t := .single (.inl h)

theorem Runs.of_moves {o : Option Setting} (h : Moves s t) : Runs o s t :=
  Relation.ReflTransGen.mono (fun _ _ => Or.inr) _ _ h

/-- The writes with which a command begins that changes a configuration, lengthens a queue or changes a profile. -/
inductive Write : Instr → State → State → Prop where
  | nothing (i : Instr) (s : State) : Write i s s
  | config {h p s} (a : AxisId) (c : AxisConfig) (hn : namesEmpty c.stopProfile s = false) :
      Write (.setAxis h p) s (setConfig a c s)
  | append {h p s} (a : AxisId) (g : Segment) (hg : g.work.inRange a = true)
      (hn : namesEmpty g.work.profile s = false) (hf : s.queued < 48) : Write (.queueSegment h p) s (appendSegment a g s)
  | define {h p s} (k : ProfileId) (l : List Stage) (hne : l ≠ []) (hl : l.length ≤ 16)
      (hr : l.all Stage.inRange = true) (ha : ascending l = true) : Write (.defineProfile h p) s (s.setProfile k l)
  | drop {h p s} (k : ProfileId) (hu : s.profileInUse k = false) (hn : s.profileNamedForStopping k = false) :
      Write (.dropProfile h p) s (s.setProfile k [])

theorem changePolarity_runs (j : InputId) (high : Bool) (s : State) :
    Runs (some .inputs) s (changePolarity j high s) :=
  (Runs.of_frame (restFrame_setInput_own _ _ _ (.inl rfl) (.inr (by rfl)))).trans (Runs.of_moves (filterRaw_moves j _))

theorem pinTakes_runs (j : InputId) (high : Bool) (s : State) : Runs (some .pins) s (pinTakes j high s) :=
  (Runs.of_frame (restFrame_setInput_own _ _ _ (.inr (by rfl)) (.inl rfl))).trans (Runs.of_moves (filterRaw_moves j _))

theorem reconfigure_runs (j : InputId) (changed high : Bool) (s : State) :
    Runs (some .inputs) s (reconfigure j changed high s) := by
  unfold reconfigure
  extract_lets u
  have hu : Runs (some .inputs) s u := by
    unfold u
    split
    · exact Runs.of_moves (restartFilter_moves j s)
    · exact .refl
  split
  · exact hu
  · exact hu.trans (changePolarity_runs j high u)

theorem applyInputConfig_runs (c : InputConfig) (s : State) : Runs (some .inputs) s (applyInputConfig c s) := by
  refine applyInputConfig_keeps (P := Runs (some .inputs) s) c s ?_ (fun t n h => ?_) fun t j b high h =>
    h.trans (reconfigure_runs j b high t)
  · exact Runs.of_frame (restFrame_of rfl rfl rfl (fun _ => rfl) (fun _ => ⟨rfl, rfl⟩) (fun h => absurd rfl h)
      (fun _ _ => rfl) (fun _ => Kept.refl s .outputs) fun _ _ => rfl)
  · exact h.trans (Runs.of_moves (Move.book t.joins n).moves)

theorem stopInOrder_moves (mode : StopMode) (flush : Bool) (order : List AxisId) (s : State) :
    Moves s (stopInOrder mode flush order s) := foldl_moves _ (fun s a => stopAxis_moves mode flush a s) order s

theorem resumeInOrder_moves (order : List AxisId) (s : State) : Moves s (resumeInOrder order s) :=
  foldl_moves _ (fun s a => resumeAxis_moves a s) order s

theorem pulseStart_moves (a : AxisId) (s : State) : Moves s (s.setAxis a (s.axis a).pulseStart) := by
  obtain ⟨-, -, hq, -, hc⟩ := pulseStart_same (s.axis a)
  exact setAxis_moves_same hc (by rw [hq]) (Axis.walked_pulseStart _)

theorem pulseEnd_moves (a : AxisId) (s : State) : Moves s (s.setAxis a (s.axis a).pulseEnd) := by
  obtain ⟨-, -, hq, -, hc⟩ := pulseEnd_same (s.axis a)
  exact setAxis_moves_same hc (by rw [hq]) (Axis.walked_pulseEnd _)

/-- A deed with no write of its own. -/
theorem Write.only (h : Runs (changedBy i) s t) : ∃ u, Write i s u ∧ Runs (changedBy i) u t := ⟨s, .nothing i s, h⟩

/-- A deed that is a write and nothing more. -/
theorem Write.whole (h : Write i s t) : ∃ u, Write i s u ∧ Runs (changedBy i) u t := ⟨t, h, .refl⟩

/-- A deed is the write that its command is there for, then a run of what the engines do and of its own setting. -/
theorem Deed.splits (h : Deed i s t) : ∃ u, Write i s u ∧ Runs (changedBy i) u t := by
  cases h with
  | rest h => exact Write.only (Runs.of_frame h)
  | setAxis a c hb hn => exact (Write.config a c hn).whole
  | enable m => exact Write.only (Runs.of_moves (foldl_moves _ (fun s a => enableAxis_moves a s) _ s))
  | disable m => exact Write.only (Runs.of_moves (foldl_moves _ (fun s a => disableAxis_moves a s) _ s))
  | setPosition a x => exact Write.only (Runs.of_moves (setAxis_moves_same rfl (List.suffix_refl _) rfl))
  | resume order n => exact Write.only (Runs.of_moves ((Move.book s.joins n).moves.trans (resumeInOrder_moves order _)))
  | stop mode flush order n =>
    exact Write.only (Runs.of_moves ((Move.book s.joins n).moves.trans (stopInOrder_moves mode flush order _)))
  | queueSegment a g hg hn hf =>
    refine ⟨_, .append a g hg hn hf, ?_⟩
    split
    · exact Runs.of_moves (activateHead_moves a _)
    · exact .refl
  | flushQueue m => exact Write.only (Runs.of_moves (foldl_moves _ (fun s a => flushAxis_moves a s) _ s))
  | defineProfile k l hne hl hr ha => exact (Write.define k l hne hl hr ha).whole
  | dropProfile k hu hn => exact (Write.drop k hu hn).whole
  | setInputConfig c => exact Write.only (applyInputConfig_runs c s)
  | linkLoss => exact Write.only (Runs.of_moves (loseLink_moves s))
  | dwellEnd a => exact Write.only (Runs.of_moves (endSegment_moves a _ s))
  | inputTimeout a => exact Write.only (Runs.of_moves (endHeld_moves a _ s))
  | filterAcceptance j => exact Write.only (Runs.of_moves (acceptRaw_moves j s))
  | rawChange j high => exact Write.only (pinTakes_runs j high s)
  | stepIssue a => exact Write.only (Runs.of_moves (issueStep_moves a s))
  | stepPulseStart a => exact Write.only (Runs.of_moves (pulseStart_moves a s))
  | stepPulseEnd a => exact Write.only (Runs.of_moves (pulseEnd_moves a s))
  | tailIntervalExpiry a => exact Write.only (Runs.of_moves (endSegment_moves a _ s))
  | stopWalkEnd a c => exact Write.only (Runs.of_moves (endSegment_moves a c s))

/-- A step under a command that is not a reset: changes of the line, the command's write, and a run. -/
theorem Does.splits (h : Does i s t) :
    Resets i s ∧ FreshBlocks t ∨ ∃ v w, LineOnly s v ∧ Write i v w ∧ Runs (changedBy i) w t := by
  obtain h | ⟨v, w, hv, hd, hw⟩ := h
  · exact .inl h
  · obtain ⟨x, hx, hr⟩ := hd.splits
    exact .inr ⟨v, x, hv, hx, hr.trans (Runs.of_frame hw.frame.weaken)⟩

/-! ### Settings (O3) -/

theorem keepsBut_setAxis {x : Axis} {o : Option Setting} (hc : o = some .config ∨ x.config = (s.axis a).config)
    (hq : o = some .queues ∨ x.queue <:+ (s.axis a).queue) : KeepsBut o s (s.setAxis a x) := by
  intro y hy
  have same := Kept.refl s y
  cases y with
  | config =>
    intro b
    rw [State.axis_setAxis]
    split
    · next e => rw [e]; exact hc.resolve_left hy
    · rfl
  | queues =>
    intro b
    rw [State.axis_setAxis]
    split
    · next e => rw [e]; exact hq.resolve_left hy
    · exact List.suffix_refl _
  | profiles | uptime | link | inputs | fields | outputs | pins => exact same

theorem keepsBut_setProfile (k : ProfileId) (l : List Stage) : KeepsBut (some .profiles) s (s.setProfile k l) := by
  intro y hy
  have same := Kept.refl s y
  cases y with
  | profiles => exact absurd rfl hy
  | config | queues | uptime | link | inputs | fields | outputs | pins => exact same

theorem Write.keeps (h : Write i s t) : KeepsBut (changedBy i) s t := by
  cases h with
  | nothing => exact fun x _ => Kept.refl s x
  | config a c => exact keepsBut_setAxis (.inl rfl) (.inr (List.suffix_refl _))
  | append a g => exact keepsBut_setAxis (.inr rfl) (.inl rfl)
  | define k l => exact keepsBut_setProfile k l
  | drop k => exact keepsBut_setProfile k []

theorem Runs.keeps {o : Option Setting} (h : Runs o s t) : KeepsBut o s t := by
  intro x hx
  induction h with
  | refl => exact Kept.refl s x
  | tail _ hm ih => exact ih.trans (hm.elim (fun h => h.kept x hx) fun h => h.kept x)

/-- Without a reset, a step changes no setting but its command's own. -/
theorem exec_keepsBut (h : exec i s = .next t) (hr : ¬ Resets i s) : KeepsBut (changedBy i) s t := by
  intro x hx
  obtain ⟨hc, -⟩ | ⟨v, w, hv, hw, hrun⟩ := (exec_does h).splits
  · exact absurd hc hr
  · exact ((hv.frame.kept x (by simp)).trans (hw.keeps x hx)).trans (hrun.keeps x hx)

/-- Settles O3: every operation of the engines is a run of elementary changes that keep each setting, and every order
writes its own setting alone. -/
theorem settingsChangeByTheirOwnCommands : Obligations.SettingsChangeByTheirOwnCommands := by
  intro i s t h hw hp hpin
  have keep := exec_keepsBut h fun hr => by
    obtain hr | ⟨b, hr⟩ | hr := hr
    · simp [hw] at hr
    · exact hp b hr
    · exact hpin hr
  refine ⟨fun hi => keep .config ?_, fun hi => keep .queues ?_, fun hi => keep .profiles ?_, fun hi => keep .uptime ?_,
    fun hi => keep .link ?_, fun hi => keep .inputs ?_, fun hi => keep .fields ?_, fun hi => keep .outputs ?_,
    fun hi => keep .pins ?_⟩
  all_goals
    intro e
    cases i <;> simp_all [changedBy]

end Sys2Proof.Machine
end

section
/-! The invariant of the pool and the profiles (O55): what an elementary change and each write keep of it. -/

namespace Sys2Proof.Machine

variable {i : Instr} {s t u : State} {a : AxisId} {k : ProfileId}

/-- An axis names a profile: in a queued segment (R19), by the walk it is STOPPING on (R22, R35), or in its configuration
(R36). -/
def Axis.Names (x : Axis) (k : ProfileId) : Prop :=
  (∃ g ∈ x.queue, g.work.profile = some k) ∨ x.walked = some k ∨ x.config.stopProfile = some k

/-- The pool's bounds, the stage lists' bounds, and that every profile named by an axis is DEFINED. -/
structure PoolSound (s : State) : Prop where
  segments : s.SegmentsInRange
  fits : s.PoolFits
  profiles : s.ProfilesSound
  defined : ∀ a k, (s.axis a).Names k → s.profile k ≠ []

/-! ### The invariant of the statement -/

theorem profileQueued_iff : s.profileQueued k = true ↔ ∃ a, ∃ g ∈ (s.axis a).queue, g.work.profile = some k := by
  simp only [State.profileQueued, List.any_eq_true, beq_iff_eq, mem_axisIds, true_and]

theorem profileWalked_iff : s.profileWalked k = true ↔ ∃ a, (s.axis a).walked = some k := by
  simp only [State.profileWalked, List.any_eq_true, Bool.and_eq_true, beq_iff_eq, mem_axisIds, true_and]
  refine exists_congr fun a => ?_
  unfold Axis.walked
  cases (s.axis a).progress <;> simp

theorem profileNamedForStopping_iff :
    s.profileNamedForStopping k = true ↔ ∃ a, (s.axis a).config.stopProfile = some k := by
  simp only [State.profileNamedForStopping, List.any_eq_true, beq_iff_eq, mem_axisIds, true_and]

/-- A profile is named by some axis exactly if it is in use or named for stopping (R22). -/
theorem names_iff :
    (∃ a, (s.axis a).Names k) ↔ s.profileInUse k = true ∨ s.profileNamedForStopping k = true := by
  simp only [State.profileInUse, Bool.or_eq_true, profileQueued_iff, profileWalked_iff, profileNamedForStopping_iff,
    Axis.Names, exists_or, or_assoc]

theorem poolSound_iff :
    PoolSound s ↔ s.SegmentsInRange ∧ s.PoolFits ∧ s.ProfilesSound ∧ s.NamedProfilesDefined := by
  have named : s.NamedProfilesDefined ↔ ∀ a k, (s.axis a).Names k → s.profile k ≠ [] := by
    have h : s.NamedProfilesDefined ↔ ∀ k, s.profile k = [] → ¬ ∃ a, (s.axis a).Names k := by
      simp only [State.NamedProfilesDefined, names_iff, not_or]
    rw [h]
    exact ⟨fun h a k hk h0 => h k h0 ⟨a, hk⟩, fun h k h0 ⟨a, hk⟩ => h a k hk h0⟩
  rw [named]
  exact ⟨fun ⟨h1, h2, h3, h4⟩ => ⟨h1, h2, h3, h4⟩, fun ⟨h1, h2, h3, h4⟩ => ⟨h1, h2, h3, h4⟩⟩

theorem fresh_poolSound (h : FreshBlocks t) : PoolSound t := by
  have hprof : ∀ k, t.profile k = [] := fun k => by
    rw [State.profile, h.profiles, Fin.getElem_fin, Vector.getElem_replicate]
  have hqueue : ∀ a, (t.axis a).queue = [] := fun a => by rw [fresh_axis h]; rfl
  constructor
  · intro a; rw [hqueue]; rfl
  · simp [State.PoolFits, State.queued, hqueue]
  · intro k; rw [hprof]; simp [ascending]
  · intro a k hk; rw [fresh_axis h] at hk; simp [Axis.Names, Axis.reset, Axis.walked, AxisConfig.reset] at hk

/-! ### What keeps it -/

theorem profile_eq_of_kept (h : Kept s t .profiles) (k : ProfileId) : t.profile k = s.profile k := by
  rw [State.profile, State.profile, show t.profiles = s.profiles from h]

/-- Configurations and profiles as they were, queues that only lose segments, and no walk but from a DEFINED profile. -/
theorem PoolSound.carry (h : PoolSound s) (kept : ∀ x ∈ [Setting.config, .queues, .profiles], Kept s t x)
    (hw : ∀ a k, (t.axis a).walked = some k → (s.axis a).walked = some k ∨ s.profile k ≠ []) : PoolSound t := by
  have hconfig : ∀ a, (t.axis a).config = (s.axis a).config := kept .config (by simp)
  have hqueue : ∀ a, (t.axis a).queue <:+ (s.axis a).queue := kept .queues (by simp)
  have hprof := profile_eq_of_kept (kept .profiles (by simp))
  refine ⟨segmentsInRange_of_suffix h.segments hqueue, (queued_le_of_suffix hqueue).trans h.fits,
    fun k => by rw [hprof]; exact h.profiles k, fun a k hk => ?_⟩
  rw [hprof]
  obtain ⟨g, hg, hk⟩ | hk | hk := hk
  · exact h.defined a k (.inl ⟨g, (hqueue a).subset hg, hk⟩)
  · exact (hw a k hk).elim (fun hk => h.defined a k (.inr (.inl hk))) id
  · exact h.defined a k (.inr (.inr (hconfig a ▸ hk)))

/-- An elementary change begins no walk but from a DEFINED profile. -/
theorem Move.walked (h : Move s t) (b : AxisId) (k : ProfileId) (hk : (t.axis b).walked = some k) :
    (s.axis b).walked = some k ∨ s.profile k ≠ [] := by
  cases h with
  | axis a x hc hq hw =>
    rw [State.axis_setAxis] at hk
    split at hk
    · next e => rw [e]; exact hw k hk
    · exact .inl hk
  | armed i =>
    unfold armSlot at hk
    split at hk <;> exact .inl hk
  | report b =>
    rw [State.axis, (admitReport_restFrame b s).axes] at hk
    exact .inl hk
  | input i r =>
    rw [State.setInput_axis] at hk
    exact .inl hk
  | book | fired | output | duty | channelLoss | line => exact .inl hk

theorem Move.poolSound (h : Move s t) (hs : PoolSound s) : PoolSound t := hs.carry (fun x _ => h.kept x) h.walked

theorem RestFrame.poolSound {o : Option Setting} (h : RestFrame o s t) (hs : PoolSound s) : PoolSound t := by
  have haxis : ∀ a, t.axis a = s.axis a := fun a => by rw [State.axis, h.axes]; rfl
  refine hs.carry (fun x hx => ?_) fun a k hk => .inl (haxis a ▸ hk)
  fin_cases hx
  · exact fun a => by rw [haxis]
  · exact fun a => by rw [haxis]
  · exact h.profiles

theorem Runs.poolSound {o : Option Setting} (h : Runs o s t) (hs : PoolSound s) : PoolSound t := by
  induction h with
  | refl => exact hs
  | tail _ hm ih => exact hm.elim (fun h => h.poolSound ih) fun h => h.poolSound ih

/-! ### The writes -/

theorem profile_ne_nil_of_named {p : Option ProfileId} (h : namesEmpty p s = false) (hk : p = some k) :
    s.profile k ≠ [] := by
  subst hk
  simpa [namesEmpty] using h

theorem queued_append (a : AxisId) (g : Segment) (s : State) : (appendSegment a g s).queued = s.queued + 1 := by
  have hlen : ∀ b, ((appendSegment a g s).axis b).queue.length = (s.axis b).queue.length + if b = a then 1 else 0 := by
    intro b
    unfold appendSegment
    rw [State.axis_setAxis]
    split
    · next e => simp [e]
    · rfl
  simp only [State.queued_eq_sum, hlen, Finset.sum_add_distrib, Finset.sum_ite_eq', Finset.mem_univ, if_true]

/-- What a write of one axis must show: its queue in range, the pool not overfull, and no name but of DEFINED profiles. -/
theorem PoolSound.setAxis (h : PoolSound s) {x : Axis} (hr : x.queue.all (fun g => g.work.inRange a) = true)
    (hf : (s.setAxis a x).PoolFits) (hd : ∀ k, x.Names k → (s.axis a).Names k ∨ s.profile k ≠ []) :
    PoolSound (s.setAxis a x) := by
  refine ⟨fun b => ?_, hf, h.profiles, fun b k hk => ?_⟩
  · rw [State.axis_setAxis]
    split
    · next e => rw [e]; exact hr
    · exact h.segments b
  · rw [State.axis_setAxis] at hk
    split at hk
    · exact (hd k hk).elim (h.defined a k) id
    · exact h.defined b k hk

theorem setConfig_poolSound {c : AxisConfig} (hn : namesEmpty c.stopProfile s = false) (h : PoolSound s) :
    PoolSound (setConfig a c s) := by
  refine h.setAxis (h.segments a) ?_ fun k hk => ?_
  · refine (queued_le_of_suffix fun b => ?_).trans h.fits
    rw [State.axis_setAxis]
    split
    · next e => rw [e]
    · exact List.suffix_refl _
  · obtain hk | hk | hk := hk
    · exact .inl (.inl hk)
    · exact .inl (.inr (.inl hk))
    · exact .inr (profile_ne_nil_of_named hn hk)

theorem appendSegment_poolSound {g : Segment} (hg : g.work.inRange a = true) (hn : namesEmpty g.work.profile s = false)
    (hf : s.queued < 48) (h : PoolSound s) : PoolSound (appendSegment a g s) := by
  refine h.setAxis ?_ ?_ fun k hk => ?_
  · simp [hg, h.segments a]
  · exact (queued_append a g s).trans_le hf
  · obtain ⟨g', hm, hk⟩ | hk | hk := hk
    · rcases List.mem_append.1 hm with hm | hm
      · exact .inl (.inl ⟨g', hm, hk⟩)
      · exact .inr (profile_ne_nil_of_named hn (List.mem_singleton.1 hm ▸ hk))
    · exact .inl (.inr (.inl hk))
    · exact .inl (.inr (.inr hk))

/-- A write of one profile: a stage list within its bounds, and not an empty one under a profile that is named. -/
theorem setProfile_poolSound {l : List Stage} (hl : l.length ≤ 16 ∧ l.all Stage.inRange ∧ ascending l)
    (hd : l ≠ [] ∨ ¬ ∃ a, (s.axis a).Names k) (h : PoolSound s) : PoolSound (s.setProfile k l) := by
  refine ⟨h.segments, h.fits, fun k' => ?_, fun a k' hk => ?_⟩
  · rw [State.profile_setProfile]
    split
    · exact hl
    · exact h.profiles k'
  · rw [State.profile_setProfile]
    split
    · next e => exact hd.resolve_right fun hn => hn ⟨a, e ▸ hk⟩
    · exact h.defined a k' hk

theorem Write.poolSound (h : Write i s t) (hs : PoolSound s) : PoolSound t := by
  cases h with
  | nothing => exact hs
  | config a c hn => exact setConfig_poolSound hn hs
  | append a g hg hn hf => exact appendSegment_poolSound hg hn hf hs
  | define k l hne hl hr ha => exact setProfile_poolSound ⟨hl, hr, ha⟩ (.inl hne) hs
  | drop k hu hn =>
    refine setProfile_poolSound ⟨Nat.zero_le _, rfl, rfl⟩ (.inr fun h => ?_) hs
    rcases names_iff.1 h with h | h <;> simp_all

theorem exec_poolSound (h : exec i s = .next t) (hs : PoolSound s) : PoolSound t := by
  obtain ⟨-, hf⟩ | ⟨v, w, hv, hw, hrun⟩ := (exec_does h).splits
  · exact fresh_poolSound hf
  · exact hrun.poolSound (hw.poolSound (hv.frame.poolSound hs))

/-- Settles O55: elementary changes only take segments away and take walks from DEFINED profiles; the four orders that
write more check what they write. -/
theorem poolAndProfilesStaySound : Obligations.PoolAndProfilesStaySound := by
  intro s t hs h
  obtain rfl | ⟨c, rest, he⟩ := step_cases h
  · exact hs
  · have hp : PoolSound { s with pending := rest } := by
      obtain ⟨h1, h2, h3, h4⟩ := poolSound_iff.2 hs
      exact ⟨h1, h2, h3, h4⟩
    exact poolSound_iff.1 (exec_poolSound he hp)

end Sys2Proof.Machine
end

section
/-! FLUSH_QUEUE and PEEK_QUEUE (R15 to R17): their verdicts in the words of the statement. -/

namespace Sys2Proof.Machine

variable {s : State} {a : AxisId} {h : Header}

/-- Axes treated one by one, each on its own record, come to one change of the axes in the list. -/
theorem foldl_setAxis_eq_mapAxes (f : Axis → Axis) (l : List AxisId) (hn : l.Nodup) (s : State) :
    l.foldl (fun s a => s.setAxis a (f (s.axis a))) s = s.mapAxes fun a x => if a ∈ l then f x else x := by
  induction l generalizing s with
  | nil => simp [State.mapAxes, State.axis]
  | cons a l ih =>
    obtain ⟨ha, hn⟩ := List.nodup_cons.1 hn
    rw [List.foldl_cons, ih hn]
    unfold State.mapAxes
    congr 1
    refine Vector.ext fun b hb => ?_
    simp only [Vector.getElem_ofFn, State.axis_setAxis, List.mem_cons]
    by_cases e : (⟨b, hb⟩ : AxisId) = a
    · simp [e, ha]
    · simp [e]

/-! ### FLUSH_QUEUE -/

/-- An axis whose queue a FLUSH_QUEUE has emptied (R16). -/
def Axis.flushed (x : Axis) : Axis :=
  { x with
    queue := []
    state := if x.state = .held then .idle else x.state
    heldCause := if x.state = .held then .none else x.heldCause
    progress := if x.state = .held then none else x.progress }

theorem flushAxis_eq (a : AxisId) (s : State) : flushAxis a s = s.setAxis a (s.axis a).flushed := by
  by_cases hs : (s.axis a).state = .held
  · rw [flushAxis_held hs]
    simp [becomeIdle, flushQueue, State.setAxis_setAxis, Axis.flushed, hs]
  · rw [flushAxis_not_held hs]
    simp [flushQueue, Axis.flushed, hs]

theorem Axis.busy_iff {x : Axis} : x.busy = true ↔ x.state = .running ∨ x.state = .waiting ∨ x.state = .stopping := by
  cases hs : x.state <;> simp [Axis.busy, hs]

theorem any_busy_iff {m : AxisMask} : ((axesOf m).any fun a => (s.axis a).busy) = true ↔
    ∃ a : AxisId, m.getLsbD a.val ∧
      ((s.axis a).state = .running ∨ (s.axis a).state = .waiting ∨ (s.axis a).state = .stopping) := by
  simp only [List.any_eq_true, mem_axesOf, Axis.busy_iff]

theorem foldl_flushAxis_eq (m : AxisMask) (s : State) : (axesOf m).foldl (fun s a => flushAxis a s) s =
    s.mapAxes fun a x => if m.getLsbD a.val then x.flushed else x := by
  simp only [flushAxis_eq, foldl_setAxis_eq_mapAxes _ _ (nodup_axesOf m), mem_axesOf]

theorem execFlushQueue_eq (m : AxisMask) (ht : s.Takes h) (hf : s.Fresh h) :
    exec (.flushQueue h [m.setWidth 8]) s = .next
      (if ∃ a : AxisId, m.getLsbD a.val ∧
          ((s.axis a).state = .running ∨ (s.axis a).state = .waiting ∨ (s.axis a).state = .stopping) then
        s.heard.answered h 0x21 4 []
      else
        (s.heard.mapAxes fun a x => if m.getLsbD a.val then x.flushed else x).answered h 0x21 0
          ([0, 1, 2, 3].map fun a : AxisId => if m.getLsbD a.val then BitVec.ofNat 8 (s.axis a).queue.length else 0)) := by
  have hb := any_busy_iff (s := s.heard) (m := m)
  refine congrArg Host.Outcome.next ?_
  split
  · next hbusy =>
    refine takeOrder_refused (c := .flushQueue) (k := .busy) ht hf (by decide) ?_
    simp only [orderFlushQueue, readAxisMask_setWidth, orBadValue]
    exact if_pos (hb.2 hbusy)
  · next hbusy =>
    refine takeOrder_accepted ht hf (by decide) ?_
    simp only [orderFlushQueue, readAxisMask_setWidth, orBadValue, ← foldl_flushAxis_eq]
    exact if_neg (mt hb.1 hbusy)

/-! ### PEEK_QUEUE -/

/-- The entries a PEEK_QUEUE lists, as pairs of tag and kind (R17). -/
def peeked (q : List Segment) (start : Nat) : List (Byte × Byte) :=
  ((q.drop start).take 20).map fun g => (g.tag, kindCode g.work.kind)

theorem peekEntries_eq (q : List Segment) (start : Nat) :
    peekEntries q start = (peeked q start).flatMap fun e => [e.1, e.2] := by
  rw [peekEntries, peeked, List.flatMap_map]

theorem length_peeked (q : List Segment) (start : Nat) : (peeked q start).length = min 20 (q.length - start) := by
  simp [peeked]

theorem getElem?_peeked {q : List Segment} {start i : Nat} (hi : i < (peeked q start).length) :
    ∃ g, q[start + i]? = some g ∧ (peeked q start)[i]? = some (g.tag, kindCode g.work.kind) := by
  rw [length_peeked] at hi
  have hlt : start + i < q.length := by omega
  refine ⟨q[start + i], List.getElem?_eq_getElem hlt, ?_⟩
  simp [peeked, show i < 20 by omega, List.getElem?_drop, List.getElem?_eq_getElem hlt]

theorem execPeekQueue_eq (a : AxisId) (start : Byte) (ht : s.Takes h) (hf : s.Fresh h) :
    exec (.peekQueue h [BitVec.ofNat 8 a.val, start]) s = .next (s.heard.answered h 0x22 0
      ([BitVec.ofNat 8 (s.axis a).queue.length,
          BitVec.ofNat 8 (peeked (s.axis a).queue start.toNat).length, start] ++
        (peeked (s.axis a).queue start.toNat).flatMap fun e => [e.1, e.2])) := by
  refine congrArg Host.Outcome.next (takeOrder_accepted ht hf (by decide) ?_)
  simp only [orderPeekQueue, readIndex_ofNat a (by decide), orBadValue, length_peeked, ← peekEntries_eq]
  rfl

/-- Settles O32: the flush of the named queues axis by axis is one change of the named axes; the listed entries are the
queue's from the start index on. -/
theorem flushQueueEmptiesAndPeekQueueLists : Obligations.FlushQueueEmptiesAndPeekQueueLists :=
  ⟨fun _ m _ ht hf => execFlushQueue_eq m ht hf, fun _ a start s ht hf =>
    ⟨peeked (s.axis a).queue start.toNat, execPeekQueue_eq a start ht hf, length_peeked _ _,
      fun _ hi => getElem?_peeked hi⟩⟩

end Sys2Proof.Machine
end

section
/-! QUEUE_SEGMENT (R10 to R14): its verdict on the bytes of every segment, an activation that a guard stops (R48), and
one that starts a MOVE (R53, R56). -/

namespace Sys2Proof.Machine

variable {s : State} {a : AxisId} {g : Segment} {h : Header}

/-! ### The verdict -/

theorem namesEmpty_iff {p : Option ProfileId} : namesEmpty p s = true ↔ ∃ k, p = some k ∧ s.profile k = [] := by
  cases p <;> simp [namesEmpty]

theorem namesEmpty_eq_false {p : Option ProfileId} (h : ∀ k, p = some k → s.profile k ≠ []) : namesEmpty p s = false := by
  rw [Bool.eq_false_iff, Ne, namesEmpty_iff]
  exact fun ⟨k, hk, h0⟩ => h k hk h0

theorem freeSlots_eq_zero_iff : s.freeSlots = 0 ↔ 48 ≤ s.queued := by
  unfold State.freeSlots
  omega

theorem freeSlots_append (a : AxisId) (g : Segment) (s : State) : (appendSegment a g s).freeSlots = 47 - s.queued := by
  unfold State.freeSlots
  rw [queued_append]
  omega

theorem axis_append (a : AxisId) (g : Segment) (s : State) :
    (appendSegment a g s).axis a = { s.axis a with queue := (s.axis a).queue ++ [g] } := State.axis_setAxis_self s a _

/-- The verdict on the ten bytes of a segment, in the order of R10 and R11. -/
theorem orderQueueSegment_segmentBytes (a : AxisId) (hg : g.work.fitsBytes) (s : State) :
    orderQueueSegment (segmentBytes a g) s =
      if g.work.inRange a = false then .refused .badValue
      else if namesEmpty g.work.profile s then .refused .profileEmpty
      else if s.freeSlots = 0 then .refused .poolFull
      else .accepted (if (s.axis a).state = .idle then activateHead a (appendSegment a g s) else appendSegment a g s)
        [BitVec.ofNat 8 ((s.axis a).queue.length + 1), BitVec.ofNat 8 (47 - s.queued)] := by
  obtain ⟨k, tag, fl, p0, p1, p2, p3, p4, p5, hb, hr⟩ := readSegment_segmentBytes a hg
  rw [hb]
  cases hir : g.work.inRange a with
  | false => simp [orderQueueSegment, readIndex_ofNat a (by decide), hr, hir, orBadValue]
  | true =>
    simp [orderQueueSegment, readIndex_ofNat a (by decide), hr, hir, orBadValue, freeSlots_append, axis_append]

/-- A segment that is accepted (R11 to R13). -/
theorem execQueueSegment_accepted (ht : s.Takes h) (hf : s.Fresh h) (hg : g.work.fitsBytes) (hr : g.work.inRange a = true)
    (hn : namesEmpty g.work.profile s.heard = false) (hq : s.queued < 48) :
    exec (.queueSegment h (segmentBytes a g)) s = .next
      ((if (s.axis a).state = .idle then activateHead a (appendSegment a g s.heard) else appendSegment a g s.heard).answered
        h 0x20 0 [BitVec.ofNat 8 ((s.axis a).queue.length + 1), BitVec.ofNat 8 (47 - s.queued)]) := by
  have hfree : s.heard.freeSlots ≠ 0 := mt freeSlots_eq_zero_iff.1 (Nat.not_le.2 hq)
  refine congrArg Host.Outcome.next (takeOrder_accepted ht hf (by decide) ?_)
  rw [orderQueueSegment_segmentBytes a hg, if_neg (by simp [hr]), if_neg (by simp [hn]), if_neg hfree]
  rfl

/-- A segment that is refused (R10, R11, R14). -/
theorem execQueueSegment_refused {k : OutcomeCode} (ht : s.Takes h) (hf : s.Fresh h)
    (hv : orderQueueSegment (segmentBytes a g) s.heard = .refused k) :
    exec (.queueSegment h (segmentBytes a g)) s = .next (s.heard.answered h 0x20 (outcomeCode k) []) :=
  congrArg Host.Outcome.next (takeOrder_refused ht hf (by decide) hv)

/-- QUEUE_SEGMENT for an axis that is not IDLE. -/
theorem execQueueSegment_not_idle (ht : s.Takes h) (hf : s.Fresh h) (hg : g.work.fitsBytes)
    (hs : (s.axis a).state ≠ .idle) :
    exec (.queueSegment h (segmentBytes a g)) s = .next
      (if g.work.inRange a = false then s.heard.answered h 0x20 3 []
      else if ∃ k, g.work.profile = some k ∧ s.profile k = [] then s.heard.answered h 0x20 6 []
      else if 48 ≤ s.queued then s.heard.answered h 0x20 5 []
      else (s.heard.setAxis a { s.axis a with queue := (s.axis a).queue ++ [g] }).answered h 0x20 0
        [BitVec.ofNat 8 ((s.axis a).queue.length + 1), BitVec.ofNat 8 (47 - s.queued)]) := by
  have hv := orderQueueSegment_segmentBytes a hg s.heard
  have hname : namesEmpty g.work.profile s.heard = true ↔ ∃ k, g.work.profile = some k ∧ s.profile k = [] := namesEmpty_iff
  have hfull : s.heard.freeSlots = 0 ↔ 48 ≤ s.queued := freeSlots_eq_zero_iff
  split
  · next hr => exact execQueueSegment_refused (k := .badValue) ht hf (by rw [hv, if_pos hr])
  · next hr =>
    split
    · next hp => exact execQueueSegment_refused (k := .profileEmpty) ht hf (by rw [hv, if_neg hr, if_pos (hname.2 hp)])
    · next hp =>
      have hn : ¬ namesEmpty g.work.profile s.heard = true := mt hname.1 hp
      split
      · next hq =>
        exact execQueueSegment_refused (k := .poolFull) ht hf (by rw [hv, if_neg hr, if_neg hn, if_pos (hfull.2 hq)])
      · next hq =>
        rw [execQueueSegment_accepted ht hf hg (by simpa using hr) (by simpa using hn) (Nat.not_le.1 hq), if_neg hs]
        rfl

/-! ### A guard that stops the activation (R48) -/

/-- A head that ESTOP or the axis's ALARM keeps from being activated waits, and the axis is HELD. -/
theorem activateHead_guarded (hq : (s.axis a).queue ≠ []) (hg : s.estopActive = true ∨ s.alarmActive a = true) :
    activateHead a s = hold a (.stopped (if s.estopActive then .estop else .driverAlarm)) s := by
  obtain ⟨g, rest, hq⟩ := List.exists_cons_of_ne_nil hq
  unfold activateHead activate
  simp only [hq]
  cases he : s.estopActive with
  | true => rfl
  | false =>
    have ha : s.alarmActive a = true := by simpa [he] using hg
    simp [ha]

/-- A segment queued to an IDLE axis under ESTOP or its ALARM (R13, R48). -/
theorem execQueueSegment_guarded (ht : s.Takes h) (hf : s.Fresh h) (hg : g.work.fitsBytes) (hr : g.work.inRange a)
    (hp : ∀ k, g.work.profile = some k → s.profile k ≠ []) (hn : s.queued < 48) (hs : (s.axis a).state = .idle)
    (hq : (s.axis a).queue = []) (hguard : s.estopActive = true ∨ s.alarmActive a = true) :
    exec (.queueSegment h (segmentBytes a g)) s = .next
      ((s.heard.setAxis a { s.axis a with
        queue := [g]
        state := .held
        heldCause := .stopped (if s.estopActive then .estop else .driverAlarm)
        progress := none }).answered h 0x20 0 [1, BitVec.ofNat 8 (47 - s.queued)]) := by
  have hempty : namesEmpty g.work.profile s.heard = false := namesEmpty_eq_false hp
  have hheld : activateHead a (appendSegment a g s.heard) =
      hold a (.stopped (if s.estopActive then .estop else .driverAlarm)) (appendSegment a g s.heard) :=
    activateHead_guarded (by simp [axis_append]) hguard
  have haxis : s.heard.axis a = s.axis a := rfl
  rw [execQueueSegment_accepted ht hf hg hr hempty hn, if_pos hs, hheld, hold, axis_append, appendSegment,
    State.setAxis_setAxis, haxis, hq]
  rfl

/-- Settles O30: the verdict on a segment's bytes, and an activation that stops at its first guard. -/
theorem queueSegmentAppendsAndWaits : Obligations.QueueSegmentAppendsAndWaits :=
  ⟨fun _ _ _ _ ht hf hg hs => execQueueSegment_not_idle ht hf hg hs,
    fun _ _ _ _ ht hf hg hr hp hn hs hq hguard => execQueueSegment_guarded ht hf hg hr hp hn hs hq hguard⟩

end Sys2Proof.Machine
end

section
/-! The MOVE that starts as it is queued (R12, R13, R53, R56): the first leg of its plan, its first step, and nothing else
at that event. -/

namespace Sys2Proof.Machine

variable {s : State} {a : AxisId} {h : Header}

/-! ### The first leg of a counted plan (R26 to R29) -/

/-- A plan has a first step, at this rate. -/
def BeginsAt (rate : Nat) (legs : List Leg) : Prop := ∃ l ls, legs = l :: ls ∧ l.rate = rate ∧ l.holds 0 = true

theorem BeginsAt.congr {rate rate' : Nat} {legs : List Leg} (h : BeginsAt rate legs) (e : rate = rate') :
    BeginsAt rate' legs := e ▸ h

theorem beginsAt_legOf {ph : Phase} {rate n : Nat} (hn : 1 ≤ n) (ls : List Leg) :
    BeginsAt rate (legOf ph rate n ++ ls) := by
  rw [legOf, if_neg (by omega)]
  exact ⟨_, ls, rfl, rfl, decide_eq_true hn⟩

theorem beginsAt_legsOf_cons {ph : Phase} {x : Stage} (hx : 1 ≤ x.steps) (xs : List Stage) (ls : List Leg) :
    BeginsAt x.rate (legsOf ph (x :: xs) ++ ls) :=
  ⟨_, _, rfl, rfl, decide_eq_true hx⟩

/-- The first of `n` steps of a run of stages is a step of its lowest stage. -/
theorem takeSteps_cons {n : Nat} {x : Stage} (hn : 1 ≤ n) (hx : 1 ≤ x.steps) (xs : List Stage) :
    ∃ y ys, takeSteps n (x :: xs) = y :: ys ∧ y.rate = x.rate ∧ 1 ≤ y.steps := by
  rw [takeSteps, if_neg (by omega)]
  split
  · exact ⟨x, _, rfl, rfl, hx⟩
  · exact ⟨{ x with steps := n }, [], rfl, rfl, hn⟩

theorem countedPlan_beginsAt {used : List Stage} {target n : Nat} (hn : 1 ≤ n) (hu : ∀ x ∈ used, 1 ≤ x.steps) :
    BeginsAt (startingRate used target) (countedPlan used target n) := by
  cases used with
  | nil =>
    rw [countedPlan, if_pos (by simp [stepSum]), fullPlan]
    simpa [legsOf, stepSum, startingRate] using beginsAt_legOf (ph := .cruise) (rate := target) hn []
  | cons x xs =>
    have hx : 1 ≤ x.steps := hu x (by simp)
    unfold countedPlan
    split
    · rw [fullPlan, List.append_assoc]
      exact beginsAt_legsOf_cons hx xs _
    · rw [truncatedPlan, List.append_assoc]
      by_cases hhalf : n / 2 = 0
      · have hnone : takeSteps (n / 2) (x :: xs) = [] := by simp [takeSteps, hhalf]
        rw [hnone]
        exact beginsAt_legOf (by omega) _
      · obtain ⟨y, ys, hy, hrate, hsteps⟩ := takeSteps_cons (Nat.pos_of_ne_zero hhalf) hx xs
        rw [hy]
        exact (beginsAt_legsOf_cons hsteps ys _).congr hrate

/-- The used stages of a sound profile have steps (R20). -/
theorem steps_usedStages (hs : s.ProfilesSound) (p : Option ProfileId) (target : Nat) :
    ∀ x ∈ usedStages (s.stagesOf p) target, 1 ≤ x.steps := by
  intro x hx
  cases p with
  | none => simp [usedStages, State.stagesOf] at hx
  | some k =>
    have hr := List.all_eq_true.1 (hs k).2.1 x (List.mem_of_mem_filter hx)
    simp only [Stage.inRange, Bool.and_eq_true, decide_eq_true_eq] at hr
    exact hr.2.1

/-! ### The first step -/

theorem turn_position (x : Axis) (d : Direction) : (x.turn d).position = x.position := by
  unfold Axis.turn; split <;> rfl

theorem turn_pulsesWaiting (x : Axis) (d : Direction) : (x.turn d).pulsesWaiting = x.pulsesWaiting := by
  unfold Axis.turn; split <;> rfl

theorem turn_logicalDir (x : Axis) (d : Direction) : (x.turn d).logicalDir = d := by
  unfold Axis.turn; split <;> rfl

/-- The progress of a counted segment whose first step has been issued. -/
def Progress.first (d : Direction) (n : Nat) (legs : List Leg) (rate : Nat) : Progress :=
  { Progress.initial (some d) (some n) legs none with
    plan := { legs := legs, leg := 0, inLeg := 1 }, stepsTaken := 1, rate := rate }

/-- An axis set in motion, with no step issued yet (R53). -/
def Axis.setOff (x : Axis) (d : Direction) (n : Nat) (legs : List Leg) : Axis :=
  { x.turn d with state := .running, heldCause := .none, progress := some (Progress.initial (some d) (some n) legs none) }

/-- An axis that has been set in motion and has issued its first step (R53, R56). -/
def Axis.started (x : Axis) (d : Direction) (n : Nat) (legs : List Leg) (rate : Nat) : Axis :=
  { x.turn d with
    state := .running
    heldCause := .none
    position := stepFrom x.position d
    progress := some (Progress.first d n legs rate)
    pulsesWaiting := x.pulsesWaiting + 1 }

theorem nextStep_initial {d : Direction} {n : Option Nat} {l : Leg} {ls : List Leg} {t : Option Uptime}
    (hl : l.holds 0 = true) :
    nextStep .running (Progress.initial (some d) n (l :: ls) t) =
      some (l, { Progress.initial (some d) n (l :: ls) t with plan := { legs := l :: ls, leg := 0, inLeg := 1 } }) := by
  simp [nextStep, Progress.initial, Track.start, Track.advance, hl]

/-- The first step of an axis that has been set in motion, before the step's consequences. -/
theorem issueStep_setOff {g : Segment} {rest : List Segment} {n : Nat} {d : Direction} {l : Leg} {ls : List Leg}
    (hq : (s.axis a).queue = g :: rest) (hl : l.holds 0 = true) :
    issueStep a (s.setAxis a ((s.axis a).setOff d n (l :: ls))) =
      afterStep a d (s.setAxis a ((s.axis a).started d n (l :: ls) l.rate)) := by
  have hactive : ((s.axis a).setOff d n (l :: ls)).active =
      some (g, Progress.initial (some d) (some n) (l :: ls) none) :=
    Axis.active_of_busy (.inl rfl) ((turn_queue _ d).trans hq) rfl
  have hstate : ((s.axis a).setOff d n (l :: ls)).state = .running := rfl
  simp only [issueStep, State.axis_setAxis_self, hactive, hstate, nextStep_initial hl, issue, State.setAxis_setAxis]
  simp only [Axis.setOff, turn_position, turn_pulsesWaiting]
  rfl

/-- No slot fires at a step of an axis that no armed trigger watches (R116). -/
theorem firingSet_eq_nil (d : Direction) (p : Position)
    (h : ∀ i f, (s.trigger i).fields = some f → (s.trigger i).state = .armed → f.axis ≠ a) : firingSet a d p s = [] := by
  rw [firingSet, List.filter_eq_nil_iff]
  intro i _ hi
  unfold TriggerSlot.firesAt at hi
  split at hi
  · next f hf =>
    simp only [Bool.and_eq_true, beq_iff_eq] at hi
    obtain ⟨⟨⟨harmed, haxis⟩, -⟩, -⟩ := hi
    exact h i f hf harmed haxis
  · cases hi

theorem inSlowZone_eq_false (h : s.accepted (.axis a .slow) = false) : inSlowZone a s = false := by
  unfold inSlowZone
  split <;> simp [h]

/-- Only a HOME has a search limit (R90). -/
theorem atSearchLimit_move {g : Segment} {p : Progress} {n r : Nat} {k : Option ProfileId} {b : Bool}
    (ha : (s.axis a).active = some (g, p)) (hg : g.work = .move n r k b) : atSearchLimit a s = false := by
  simp [atSearchLimit, ha, hg]

/-- Nothing follows a step that no trigger, no SLOW zone and no search limit meets. -/
theorem afterStep_eq_self {d : Direction} (hz : inSlowZone a s = false) (hf : firingSet a d (s.axis a).position s = [])
    (hl : atSearchLimit a s = false) : afterStep a d s = s := by
  simp [afterStep, hz, hf, hl, fireAll, limitRequest]

/-- A MOVE at the head of a queue starts, and its first step meets nothing. -/
theorem startMotion_move {g : Segment} {rest : List Segment} {n r : Nat} {k : Option ProfileId} {b : Bool}
    {d : Direction} {legs : List Leg} {rate : Nat} (hq : (s.axis a).queue = g :: rest) (hg : g.work = .move n r k b)
    (hl : BeginsAt rate legs) (hslow : s.accepted (.axis a .slow) = false)
    (hfire : ∀ i f, (s.trigger i).fields = some f → (s.trigger i).state = .armed → f.axis ≠ a) :
    startMotion a d (some n) legs s = s.setAxis a ((s.axis a).started d n legs rate) := by
  obtain ⟨l, ls, rfl, rfl, hh⟩ := hl
  have hactive : ((s.axis a).started d n (l :: ls) l.rate).active =
      some (g, Progress.first d n (l :: ls) l.rate) :=
    Axis.active_of_busy (.inl rfl) ((turn_queue _ d).trans hq) rfl
  have hafter : afterStep a d (s.setAxis a ((s.axis a).started d n (l :: ls) l.rate)) =
      s.setAxis a ((s.axis a).started d n (l :: ls) l.rate) :=
    afterStep_eq_self (inSlowZone_eq_false hslow) (firingSet_eq_nil d _ hfire)
      (atSearchLimit_move (by rw [State.axis_setAxis_self]; exact hactive) hg)
  exact (issueStep_setOff hq hh).trans hafter

/-! ### The queued MOVE -/

theorem limitAhead_eq_false {negative : Bool} (h : s.accepted (.axis a (if negative then .limn else .limp)) = false) :
    limitAhead a (directionOf negative) s = false := by
  cases negative <;> exact h

/-- A MOVE that passes its checks (R49, R51, R52). -/
theorem activationCheck_move {tag : Byte} {report negative : Bool} {count rate : Nat} {profile : Option ProfileId}
    (hmax : rate ≤ (s.axis a).config.maxRate)
    (hpull : startingRate (usedStages (s.stagesOf profile) rate) rate ≤ (s.axis a).config.pullInRate)
    (hlim : s.accepted (.axis a (if negative then .limn else .limp)) = false) :
    activationCheck a { tag := tag, report := report, work := .move count rate profile negative } s =
      .motion (directionOf negative) (some count) (countedPlan (usedStages (s.stagesOf profile) rate) rate count) := by
  simp [activationCheck, checkMotion, Nat.not_lt.2 hmax, Nat.not_lt.2 hpull, limitAhead_eq_false hlim]

/-- A head that no guard stops and that passes its checks as a motion starts (R48, R53). -/
theorem activateHead_motion {g : Segment} {rest : List Segment} {d : Direction} {n : Option Nat} {legs : List Leg}
    (hq : (s.axis a).queue = g :: rest) (he : s.estopActive = false) (hal : s.alarmActive a = false)
    (hc : activationCheck a g s = .motion d n legs) : activateHead a s = startMotion a d n legs s := by
  unfold activateHead activate
  simp [hq, he, hal, hc]

theorem stepFrom_directionOf (p : Position) (negative : Bool) :
    stepFrom p (directionOf negative) = p + (if negative then -1 else 1) := by
  cases negative
  · rfl
  · exact BitVec.sub_eq_add_neg p 1

/-- A MOVE at the head starts at once, when no guard stops it, it passes its checks, and its first step meets nothing. -/
theorem activateHead_move {g : Segment} {rest : List Segment} {n r rate : Nat} {k : Option ProfileId} {b : Bool}
    {d : Direction} {legs : List Leg} (hq : (s.axis a).queue = g :: rest) (hg : g.work = .move n r k b)
    (he : s.estopActive = false) (hal : s.alarmActive a = false) (hslow : s.accepted (.axis a .slow) = false)
    (hfire : ∀ i f, (s.trigger i).fields = some f → (s.trigger i).state = .armed → f.axis ≠ a)
    (hc : activationCheck a g s = .motion d (some n) legs) (hl : BeginsAt rate legs) :
    activateHead a s = s.setAxis a ((s.axis a).started d n legs rate) := by
  rw [activateHead_motion hq he hal hc, startMotion_move hq hg hl hslow hfire]

/-- Settles O31: the activation comes to one write of the axis, since nothing follows its first step. -/
theorem queuedMoveStartsAtOnce : Obligations.QueuedMoveStartsAtOnce := by
  intro h a tag report negative count rate profile s ht hf hsound hcount hrate hdef hn hs hq he hal hslow hlim
  extract_lets used first g
  intro hmax hpull hfire
  have hc : 1 ≤ count ∧ count ≤ 8388607 := of_decide_eq_true hcount
  have hra : 1 ≤ rate ∧ rate ≤ 40000 := of_decide_eq_true hrate
  have hempty : namesEmpty g.work.profile s.heard = false := namesEmpty_eq_false hdef
  have hfits : g.work.fitsBytes = true := decide_eq_true ⟨by omega, by omega⟩
  have hrange : g.work.inRange a = true := by simp [g, Work.inRange, hcount, hrate]
  have hlegs : BeginsAt first (countedPlan used rate count) :=
    countedPlan_beginsAt hc.1 (steps_usedStages hsound profile rate)
  have hcheck : activationCheck a g (appendSegment a g s.heard) =
      .motion (directionOf negative) (some count) (countedPlan used rate count) :=
    activationCheck_move (by rw [axis_append]; exact hmax) (by rw [axis_append]; exact hpull) hlim
  have hown : (appendSegment a g s.heard).axis a = { s.axis a with queue := [g] } := by
    rw [axis_append, show s.heard.axis a = s.axis a from rfl, hq]
    rfl
  have hqueue : ((appendSegment a g s.heard).axis a).queue = [g] := by rw [hown]
  obtain ⟨x, hx⟩ : ∃ x, x = ({ s.axis a with queue := [g] } : Axis).started (directionOf negative) count
      (countedPlan used rate count) first := ⟨_, rfl⟩
  have hactivate : activateHead a (appendSegment a g s.heard) = s.heard.setAxis a x := by
    rw [activateHead_move hqueue rfl he hal hslow hfire hcheck hlegs, hown, ← hx, appendSegment, State.setAxis_setAxis]
  have hexec : exec (.queueSegment h (segmentBytes a g)) s =
      .next ((s.heard.setAxis a x).answered h 0x20 0 [1, BitVec.ofNat 8 (47 - s.queued)]) := by
    rw [execQueueSegment_accepted ht hf hfits hrange hempty hn, if_pos hs, hactivate, hq]
    rfl
  have haxis : ((s.heard.setAxis a x).answered h 0x20 0 [1, BitVec.ofNat 8 (47 - s.queued)]).axis a = x :=
    State.axis_setAxis_self s.heard a x
  refine ⟨_, Progress.first (directionOf negative) count (countedPlan used rate count) first, hexec, ?_⟩
  rw [haxis, hx]
  exact ⟨rfl, rfl, turn_queue _ _, rfl, stepFrom_directionOf _ _, rfl, turn_logicalDir _ _, rfl, rfl,
    Nat.zero_add 1, rfl, rfl, rfl, fun b hb => State.axis_setAxis_ne s.heard a b _ hb,
    rfl, rfl, rfl, rfl, rfl, rfl, rfl, rfl⟩

end Sys2Proof.Machine
end

section
/-! The arithmetic of plans and stop walks (R26 to R34), and O53: which stages their legs come from, how many steps they
hold, and how a track counts them off. -/

namespace Sys2Proof.Machine

/-! ### Runs of stages -/

theorem ascending_iff {l : List Stage} : ascending l = true ↔ (l.map Stage.rate).Pairwise (· < ·) := by
  rw [← List.isChain_iff_pairwise]
  induction l with
  | nil => simp [ascending]
  | cons x l ih =>
    cases l with
    | nil => simp [ascending]
    | cons y l => simpa [ascending] using fun _ => ih

theorem stepSum_cons (x : Stage) (l : List Stage) : stepSum (x :: l) = x.steps + stepSum l := by simp [stepSum]

theorem stepSum_reverse (l : List Stage) : stepSum l.reverse = stepSum l := by simp [stepSum, List.map_reverse]

/-- The first `n` steps of a run are `n`, or as many as it has. -/
theorem stepSum_takeSteps (n : Nat) (l : List Stage) : stepSum (takeSteps n l) = min n (stepSum l) := by
  induction l generalizing n with
  | nil => simp [takeSteps, stepSum]
  | cons x l ih =>
    rw [takeSteps, stepSum_cons]
    split
    · next h => simp [h, stepSum]
    · split
      · next h => rw [stepSum_cons, ih]; omega
      · next h => simp [stepSum]; omega

/-- The first steps of a run are taken at the rates of its first stages. -/
theorem rates_takeSteps (n : Nat) (l : List Stage) : (takeSteps n l).map Stage.rate <+: l.map Stage.rate := by
  induction l generalizing n with
  | nil => simp [takeSteps]
  | cons x l ih =>
    rw [takeSteps]
    split
    · exact List.nil_prefix
    · split
      · exact (List.prefix_cons_inj _).2 (ih _)
      · exact ⟨l.map Stage.rate, rfl⟩

/-- Where every stage has steps, so has each of which the first steps of the run are taken. -/
theorem steps_takeSteps {n : Nat} {l : List Stage} (hl : ∀ x ∈ l, 1 ≤ x.steps) : ∀ x ∈ takeSteps n l, 1 ≤ x.steps := by
  induction l generalizing n with
  | nil => simp [takeSteps]
  | cons y l ih =>
    rw [takeSteps]
    split
    · simp
    · next hn =>
      obtain ⟨hy, hl⟩ := List.forall_mem_cons.1 hl
      split
      · exact List.forall_mem_cons.2 ⟨hy, ih hl⟩
      · exact List.forall_mem_singleton.2 (Nat.one_le_iff_ne_zero.2 hn)

/-- A stage of the first steps has the rate of a stage of the run. -/
theorem rate_mem_takeSteps {n : Nat} {l : List Stage} {x : Stage} (hx : x ∈ takeSteps n l) : ∃ y ∈ l, y.rate = x.rate :=
  List.mem_map.1 ((rates_takeSteps n l).subset (List.mem_map_of_mem hx))

/-! ### Legs -/

theorem legSum_append (l m : List Leg) : legSum (l ++ m) = legSum l + legSum m := by simp [legSum]

theorem legSum_legsOf (ph : Phase) (l : List Stage) : legSum (legsOf ph l) = stepSum l := by
  simp [legSum, legsOf, stepSum, Function.comp_def]

theorem legSum_legOf (ph : Phase) (rate n : Nat) : legSum (legOf ph rate n) = n := by
  unfold legOf
  split <;> simp_all [legSum]

/-- A leg of which the steps are counted, and there is one. -/
def Leg.Counted (l : Leg) : Prop := ∃ n, l.steps = some n ∧ 1 ≤ n

theorem Leg.sound_iff {l : Leg} : l.sound = true ↔ rateInRange l.rate = true ∧ ∀ n, l.steps = some n → 1 ≤ n := by
  simp [Leg.sound, Option.all_eq_true]

theorem Leg.Counted.sound {l : Leg} (h : l.Counted) (hr : rateInRange l.rate = true) : l.sound = true := by
  obtain ⟨n, hn, h1⟩ := h
  exact Leg.sound_iff.2 ⟨hr, fun m hm => by rw [hn] at hm; exact Option.some.inj hm ▸ h1⟩

theorem Leg.counted_of_sound {l : Leg} (h : l.sound = true) (hs : l.steps.isSome = true) : l.Counted := by
  obtain ⟨n, hn⟩ := Option.isSome_iff_exists.1 hs
  exact ⟨n, hn, (Leg.sound_iff.1 h).2 n hn⟩

theorem mem_legsOf {ph : Phase} {stages : List Stage} {l : Leg} (h : l ∈ legsOf ph stages) :
    ∃ x ∈ stages, l = { phase := ph, rate := x.rate, steps := some x.steps } := by
  obtain ⟨x, hx, e⟩ := List.mem_map.1 h
  exact ⟨x, hx, e.symm⟩

theorem mem_legOf {ph : Phase} {rate n : Nat} {l : Leg} (h : l ∈ legOf ph rate n) :
    l = { phase := ph, rate := rate, steps := some n } ∧ 1 ≤ n := by
  unfold legOf at h
  split at h
  · cases h
  · next hn => exact ⟨List.mem_singleton.1 h, Nat.one_le_iff_ne_zero.2 hn⟩

/-! ### The plan of a counted segment (R28, R29) -/

/-- A counted plan holds exactly its count. -/
theorem legSum_countedPlan (used : List Stage) (target n : Nat) : legSum (countedPlan used target n) = n := by
  unfold countedPlan
  split
  · simp only [fullPlan, legSum_append, legSum_legsOf, legSum_legOf, stepSum_reverse]
    omega
  · simp only [truncatedPlan, legSum_append, legSum_legsOf, legSum_legOf, stepSum_reverse, stepSum_takeSteps]
    omega

/-- Rates and steps of a plan that climbs and comes down by the same stages, with at most one leg between. -/
theorem legs_mirrored (stages : List Stage) (ph : Phase) (rate n : Nat) :
    (legsOf .accel stages ++ legOf ph rate n ++ legsOf .decel stages.reverse).reverse.map (fun l => (l.rate, l.steps)) =
      (legsOf .accel stages ++ legOf ph rate n ++ legsOf .decel stages.reverse).map fun l => (l.rate, l.steps) := by
  have hmid : (legOf ph rate n).reverse = legOf ph rate n := by
    unfold legOf
    split <;> rfl
  simp [legsOf, hmid, List.map_reverse, Function.comp_def]

theorem countedPlan_mirrored (used : List Stage) (target n : Nat) :
    (countedPlan used target n).reverse.map (fun l => (l.rate, l.steps)) =
      (countedPlan used target n).map fun l => (l.rate, l.steps) := by
  unfold countedPlan
  split
  · exact legs_mirrored _ _ _ _
  · exact legs_mirrored _ _ _ _

/-- A rate of a plan: the target, or that of a used stage. -/
def PlanRate (used : List Stage) (target rate : Nat) : Prop := rate = target ∨ ∃ x ∈ used, x.rate = rate

theorem planRate_startingRate (used : List Stage) (target : Nat) : PlanRate used target (startingRate used target) := by
  cases used with
  | nil => exact .inl rfl
  | cons x l => exact .inr ⟨x, List.mem_cons_self, rfl⟩

theorem planRate_reachedRate (used : List Stage) (target n : Nat) :
    PlanRate used target (reachedRate used (takeSteps n used) target) := by
  unfold reachedRate
  split
  · next x hx => exact .inr (rate_mem_takeSteps (List.mem_of_getLast? hx))
  · exact planRate_startingRate used target

/-- The phases a leg of a plan is in (R27). -/
def Phase.ofPlan (ph : Phase) : Prop := ph = .accel ∨ ph = .peak ∨ ph = .cruise ∨ ph = .decel

/-- A leg of a counted plan: in a phase of a plan, with steps, at a rate of the plan (R27 to R29). -/
theorem mem_countedPlan {used : List Stage} {target n : Nat} {l : Leg} (hu : ∀ x ∈ used, 1 ≤ x.steps)
    (h : l ∈ countedPlan used target n) : l.phase.ofPlan ∧ l.Counted ∧ PlanRate used target l.rate := by
  have part : ∀ {ph : Phase} {stages : List Stage}, ph.ofPlan → (∀ x ∈ stages, 1 ≤ x.steps) →
      (∀ x ∈ stages, ∃ y ∈ used, y.rate = x.rate) → l ∈ legsOf ph stages →
      l.phase.ofPlan ∧ l.Counted ∧ PlanRate used target l.rate := by
    intro ph stages hph hs hr hl
    obtain ⟨x, hx, rfl⟩ := mem_legsOf hl
    exact ⟨hph, ⟨_, rfl, hs x hx⟩, .inr (hr x hx)⟩
  unfold countedPlan at h
  split at h
  · rw [fullPlan, List.mem_append, List.mem_append] at h
    obtain (h | h) | h := h
    · exact part (.inl rfl) hu (fun x hx => ⟨x, hx, rfl⟩) h
    · obtain ⟨rfl, hn⟩ := mem_legOf h
      exact ⟨.inr (.inr (.inl rfl)), ⟨_, rfl, hn⟩, .inl rfl⟩
    · exact part (.inr (.inr (.inr rfl))) (fun x hx => hu x (List.mem_reverse.1 hx))
        (fun x hx => ⟨x, List.mem_reverse.1 hx, rfl⟩) h
  · rw [truncatedPlan, List.mem_append, List.mem_append] at h
    obtain (h | h) | h := h
    · exact part (.inl rfl) (steps_takeSteps hu) (fun x hx => rate_mem_takeSteps hx) h
    · obtain ⟨rfl, hn⟩ := mem_legOf h
      exact ⟨.inr (.inl rfl), ⟨_, rfl, hn⟩, planRate_reachedRate used target _⟩
    · exact part (.inr (.inr (.inr rfl))) (fun x hx => steps_takeSteps hu x (List.mem_reverse.1 hx))
        (fun x hx => rate_mem_takeSteps (List.mem_reverse.1 hx)) h

/-! ### Used stages and walks (R26, R32, R34) -/

variable {stages : List Stage} {rate : Nat}

theorem Stage.inRange_iff {x : Stage} : x.inRange = true ↔ rateInRange x.rate = true ∧ 1 ≤ x.steps ∧ x.steps ≤ 255 := by
  simp [Stage.inRange]

/-- A used stage is a stage in range, of a rate below the target. -/
theorem mem_usedStages (hs : stages.all Stage.inRange = true) {x : Stage} (hx : x ∈ usedStages stages rate) :
    x.rate < rate ∧ rateInRange x.rate = true ∧ 1 ≤ x.steps := by
  obtain ⟨hx, hlt⟩ := List.mem_filter.1 hx
  obtain ⟨hr, h1, -⟩ := Stage.inRange_iff.1 (List.all_eq_true.1 hs x hx)
  exact ⟨of_decide_eq_true hlt, hr, h1⟩

theorem ascending_usedStages (ha : ascending stages = true) : ascending (usedStages stages rate) = true :=
  ascending_iff.2 ((ascending_iff.1 ha).sublist (List.filter_sublist.map _))

/-- No rate of a plan lies below its starting rate (R26). -/
theorem startingRate_le {used : List Stage} {target r : Nat} (ha : ascending used = true) (hu : ∀ x ∈ used, x.rate < target)
    (hr : PlanRate used target r) : startingRate used target ≤ r := by
  cases used with
  | nil =>
    obtain rfl | ⟨x, hx, -⟩ := hr
    · exact le_rfl
    · cases hx
  | cons x l =>
    obtain rfl | ⟨y, hy, rfl⟩ := hr
    · exact (hu x List.mem_cons_self).le
    · obtain rfl | hy := List.mem_cons.1 hy
      · exact le_rfl
      · exact ((List.pairwise_cons.1 (ascending_iff.1 ha)).1 _ (List.mem_map_of_mem hy)).le

theorem PlanRate.inRange {r : Nat} (hs : stages.all Stage.inRange = true) (ht : rateInRange rate = true)
    (hr : PlanRate (usedStages stages rate) rate r) : rateInRange r = true := by
  obtain rfl | ⟨x, hx, rfl⟩ := hr
  · exact ht
  · exact (mem_usedStages hs hx).2.1

theorem PlanRate.le {r : Nat} (hs : stages.all Stage.inRange = true) (hr : PlanRate (usedStages stages rate) rate r) :
    r ≤ rate := by
  obtain rfl | ⟨x, hx, rfl⟩ := hr
  · exact le_rfl
  · exact (mem_usedStages hs hx).1.le

/-- The stages a walk is made of: those below the rate, in descending order, and only the first steps of them where the
segment is counted (R32, R34). -/
def walkedStages (stages : List Stage) (rate : Nat) (p : Progress) : List Stage :=
  match p.count with
  | some n => takeSteps (n - p.stepsTaken) (walkStages stages rate)
  | none => walkStages stages rate

theorem walkLegs_eq (stages : List Stage) (rate : Nat) (p : Progress) :
    walkLegs stages rate p = legsOf .stopWalk (walkedStages stages rate p) := by
  unfold walkLegs walkedStages
  cases p.count <;> rfl

theorem rates_walkedStages (p : Progress) :
    (walkedStages stages rate p).map Stage.rate <+: (walkStages stages rate).map Stage.rate := by
  unfold walkedStages
  split
  · exact rates_takeSteps _ _
  · exact List.prefix_rfl

theorem mem_walkStages (hs : stages.all Stage.inRange = true) :
    ∀ x ∈ walkStages stages rate, x.rate < rate ∧ rateInRange x.rate = true ∧ 1 ≤ x.steps :=
  fun _ hx => mem_usedStages hs (List.mem_reverse.1 hx)

/-- A stage of a walk has steps, at a rate in range below the rate it starts from. -/
theorem mem_walkedStages (hs : stages.all Stage.inRange = true) {p : Progress} {x : Stage}
    (hx : x ∈ walkedStages stages rate p) : x.rate < rate ∧ rateInRange x.rate = true ∧ 1 ≤ x.steps := by
  obtain ⟨y, hy, e⟩ := List.mem_map.1 ((rates_walkedStages p).subset (List.mem_map_of_mem hx))
  obtain ⟨hlt, hr, -⟩ := mem_walkStages hs y hy
  refine ⟨e ▸ hlt, e ▸ hr, ?_⟩
  unfold walkedStages at hx
  split at hx
  · exact steps_takeSteps (fun y hy => (mem_walkStages hs y hy).2.2) x hx
  · exact (mem_walkStages hs x hx).2.2

/-- A leg of a walk: in phase STOP_WALK, with steps, at a rate in range below the one it starts from (R32). -/
theorem mem_walkLegs (hs : stages.all Stage.inRange = true) {p : Progress} {l : Leg} (hl : l ∈ walkLegs stages rate p) :
    l.phase = .stopWalk ∧ l.Counted ∧ l.rate < rate ∧ rateInRange l.rate = true := by
  rw [walkLegs_eq] at hl
  obtain ⟨x, hx, rfl⟩ := mem_legsOf hl
  obtain ⟨hlt, hr, h1⟩ := mem_walkedStages hs hx
  exact ⟨rfl, ⟨_, rfl, h1⟩, hlt, hr⟩

/-- A walk of a counted segment does not go beyond the steps left (R34). -/
theorem legSum_walkLegs_le (stages : List Stage) (rate : Nat) {p : Progress} {n : Nat} (hc : p.count = some n) :
    legSum (walkLegs stages rate p) ≤ n - p.stepsTaken := by
  rw [walkLegs_eq, legSum_legsOf, walkedStages, hc]
  simp only [stepSum_takeSteps]
  exact Nat.min_le_left _ _

/-- A walk only descends (R32). -/
theorem walkLegs_descending (ha : ascending stages = true) (p : Progress) :
    ((walkLegs stages rate p).map Leg.rate).Pairwise (· > ·) := by
  have hdown : ((walkStages stages rate).map Stage.rate).Pairwise (· > ·) := by
    rw [walkStages, List.map_reverse, List.pairwise_reverse]
    exact ascending_iff.1 (ascending_usedStages ha)
  have hrates : (walkLegs stages rate p).map Leg.rate = (walkedStages stages rate p).map Stage.rate := by
    simp [walkLegs_eq, legsOf, Function.comp_def]
  rw [hrates]
  exact hdown.sublist (rates_walkedStages p).sublist

/-! ### Tracks -/

/-- The place of a track is in one of its legs, not beyond the leg's last step. -/
def Track.Placed (t : Track) : Prop := ∃ l, t.legs[t.leg]? = some l ∧ t.inLeg ≤ l.steps.getD t.inLeg

theorem Track.at_iff {t : Track} {r : Nat} :
    t.at r = true ↔ ∃ l, t.legs[t.leg]? = some l ∧ (1 ≤ t.inLeg ∧ t.inLeg ≤ l.steps.getD t.inLeg) ∧ l.rate = r := by
  unfold Track.at
  split <;> simp_all

theorem Track.placed_of_at {t : Track} {r : Nat} (h : t.at r = true) : t.Placed := by
  obtain ⟨l, hl, ⟨-, hn⟩, -⟩ := Track.at_iff.1 h
  exact ⟨l, hl, hn⟩

theorem Track.placed_start {legs : List Leg} (h : legs ≠ []) : (Track.start legs).Placed := by
  obtain ⟨l, ls, rfl⟩ := List.exists_cons_of_ne_nil h
  exact ⟨l, rfl, Nat.zero_le _⟩

theorem Track.issued_start (legs : List Leg) : (Track.start legs).issued = 0 := rfl

theorem legSum_take_succ {legs : List Leg} {i : Nat} {l : Leg} (h : legs[i]? = some l) :
    legSum (legs.take (i + 1)) = legSum (legs.take i) + l.steps.getD 0 := by
  rw [List.take_add_one, h, legSum_append]
  simp [legSum]

theorem legSum_take_le (legs : List Leg) (i : Nat) : legSum (legs.take i) ≤ legSum legs := by
  conv_rhs => rw [← List.take_append_drop i legs, legSum_append]
  exact Nat.le_add_right _ _

/-- A track has not issued more steps than it has. -/
theorem Track.issued_le {t : Track} (hc : ∀ l ∈ t.legs, l.Counted) (hp : t.Placed) : t.issued ≤ legSum t.legs := by
  obtain ⟨l, hl, hn⟩ := hp
  obtain ⟨n, hs, -⟩ := hc l (List.mem_of_getElem? hl)
  have hsum := legSum_take_succ hl
  have hle := legSum_take_le t.legs (t.leg + 1)
  rw [hs, Option.getD_some] at hsum hn
  unfold Track.issued
  omega

/-- A step issued is a step of a leg of the track, at that leg's rate; where every leg is counted, one more is issued. -/
theorem Track.advance_eq_some {t u : Track} {l : Leg} (h : t.advance = some (l, u)) :
    u.legs = t.legs ∧ l ∈ t.legs ∧ u.at l.rate = true ∧
      ((∀ l ∈ t.legs, l.Counted) → t.Placed → u.issued = t.issued + 1) := by
  have holds : ∀ {m : Leg} {n : Nat}, m.holds n = true → n + 1 ≤ m.steps.getD (n + 1) := by
    intro m n hm
    unfold Leg.holds at hm
    split at hm <;> simp_all
  unfold Track.advance at h
  split at h
  · cases h
  · next m hm =>
    split at h
    · next hh =>
      obtain ⟨rfl, rfl⟩ := Prod.mk.inj (Option.some.inj h)
      exact ⟨rfl, List.mem_of_getElem? hm, Track.at_iff.2 ⟨m, hm, ⟨Nat.le_add_left _ _, holds hh⟩, rfl⟩, fun _ _ => rfl⟩
    · next hh =>
      split at h
      · cases h
      · next m' hm' =>
        split at h
        · next hh' =>
          obtain ⟨rfl, rfl⟩ := Prod.mk.inj (Option.some.inj h)
          refine ⟨rfl, List.mem_of_getElem? hm', Track.at_iff.2 ⟨m', hm', ⟨le_rfl, holds hh'⟩, rfl⟩, fun hc hp => ?_⟩
          obtain ⟨n, hn, -⟩ := hc m (List.mem_of_getElem? hm)
          obtain ⟨m'', hm'', hle⟩ := hp
          obtain rfl : m = m'' := Option.some.inj (hm.symm.trans hm'')
          simp only [Leg.holds, hn, decide_eq_true_eq, Nat.not_lt] at hh
          rw [hn, Option.getD_some] at hle
          simp only [Track.issued, legSum_take_succ hm, hn, Option.getD_some]
          omega
        · cases h

/-- A counted track has no next step exactly when all have been issued. -/
theorem Track.advance_eq_none_iff {t : Track} (hc : ∀ l ∈ t.legs, l.Counted) (hp : t.Placed) :
    t.advance = none ↔ t.issued = legSum t.legs := by
  have hle := Track.issued_le hc hp
  cases ha : t.advance with
  | some v =>
    obtain ⟨hlegs, -, hat, hone⟩ := Track.advance_eq_some (l := v.1) (u := v.2) ha
    have hle' := Track.issued_le (hlegs ▸ hc) (Track.placed_of_at hat)
    rw [hone hc hp, hlegs] at hle'
    simp only [reduceCtorEq, false_iff]
    omega
  | none =>
    refine iff_of_true rfl ?_
    obtain ⟨l, hl, hn⟩ := hp
    obtain ⟨n, hs, -⟩ := hc l (List.mem_of_getElem? hl)
    rw [hs, Option.getD_some] at hn
    have hsum := legSum_take_succ hl
    rw [hs, Option.getD_some] at hsum
    unfold Track.advance at ha
    rw [hl] at ha
    simp only [Leg.holds, hs, decide_eq_true_eq] at ha
    split at ha
    · cases ha
    · next hh =>
      split at ha
      · next hlast =>
        have hall : t.legs.take (t.leg + 1) = t.legs := List.take_of_length_le (List.getElem?_eq_none_iff.1 hlast)
        rw [hall] at hsum
        unfold Track.issued
        omega
      · next m hm =>
        obtain ⟨k, hk, hk1⟩ := hc m (List.mem_of_getElem? hm)
        simp [hk, Nat.one_le_iff_ne_zero.1 hk1] at ha

/-- The place after the next step; `none` after the last. -/
def nextPlace (t : Option Track) : Option Track := t.bind fun t => t.advance.map Prod.snd

theorem iterate_nextPlace_none (k : Nat) : nextPlace^[k] none = none := Function.iterate_fixed rfl k

/-- Issued one by one, the steps of a counted track come to an end after as many as are left. -/
theorem iterate_nextPlace_eq_none_iff (k : Nat) (t : Track) (hc : ∀ l ∈ t.legs, l.Counted) (hp : t.Placed) :
    nextPlace^[k] (some t) = none ↔ legSum t.legs - t.issued < k := by
  induction k generalizing t with
  | zero => simp
  | succ k ih =>
    have hle := Track.issued_le hc hp
    rw [Function.iterate_succ_apply]
    cases ha : t.advance with
    | none =>
      have hall := (Track.advance_eq_none_iff hc hp).1 ha
      have hnext : nextPlace (some t) = none := by simp [nextPlace, ha]
      rw [hnext, iterate_nextPlace_none]
      simp [hall]
    | some v =>
      obtain ⟨hlegs, -, hat, hone⟩ := Track.advance_eq_some (l := v.1) (u := v.2) ha
      have hleft := mt (Track.advance_eq_none_iff hc hp).2 (by simp [ha])
      have hnext : nextPlace (some t) = some v.2 := by simp [nextPlace, ha]
      rw [hnext, ih v.2 (hlegs ▸ hc) (Track.placed_of_at hat), hlegs, hone hc hp]
      omega

/-- Settles O53: the sums of the legs, the stages each leg comes from, and the count of a track's steps. -/
theorem plansHaveTheStepsOfTheirSegments : Obligations.PlansHaveTheStepsOfTheirSegments := by
  intro stages rate n hs ha hr hn
  have hn1 : 1 ≤ n ∧ n ≤ 8388607 := of_decide_eq_true hn
  refine ⟨?_, fun p hc => ⟨legSum_walkLegs_le stages rate hc, walkLegs_descending ha p, fun l hl => ?_⟩⟩
  · intro used legs
    have hsum : legSum legs = n := legSum_countedPlan used rate n
    have hleg : ∀ l ∈ legs, l.phase.ofPlan ∧ l.Counted ∧ PlanRate used rate l.rate := fun l hl =>
      mem_countedPlan (fun x hx => (mem_usedStages hs hx).2.2) hl
    have hne : legs ≠ [] := fun e => by
      rw [e] at hsum
      exact absurd hsum (Nat.ne_of_lt hn1.1)
    refine ⟨hsum, countedPlan_mirrored used rate n, fun l hl => ?_, fun k => ?_⟩
    · obtain ⟨-, hcount, hrate⟩ := hleg l hl
      exact ⟨hcount.sound (hrate.inRange hs hr), by obtain ⟨m, hm, -⟩ := hcount; simp [hm], hrate.le hs,
        startingRate_le (ascending_usedStages ha) (fun x hx => (mem_usedStages hs hx).1) hrate⟩
    · have hend := iterate_nextPlace_eq_none_iff k (Track.start legs) (fun l hl => (hleg l hl).2.1) (Track.placed_start hne)
      rwa [Track.issued_start, Nat.sub_zero, show legSum (Track.start legs).legs = n from hsum] at hend
  · obtain ⟨-, hcount, hlt, hrate⟩ := mem_walkLegs hs hl
    exact ⟨hlt, hcount.sound hrate⟩

end Sys2Proof.Machine
end

section
/-! Motions on their plans (O59): what a step, a stop request and an activation make of the place an axis has reached in its
plan or its walk. -/

namespace Sys2Proof.Machine

/-! ### The progress of a motion (R34, R41, R42) -/

theorem planLegs_iff {c : Bool} {legs : List Leg} :
    planLegs c legs = true ↔ ∀ l ∈ legs, l.sound = true ∧ l.phase.ofPlan ∧ (c = true → l.steps.isSome = true) := by
  simp only [planLegs, List.all_eq_true, Bool.and_eq_true, Bool.or_eq_true, beq_iff_eq, Bool.not_eq_true', Phase.ofPlan,
    or_assoc, and_assoc, Bool.eq_false_iff, ne_eq, ← imp_iff_not_or]

theorem walkLegsSound_iff {legs : List Leg} : walkLegsSound legs = true ↔
    legs ≠ [] ∧ ∀ l ∈ legs, l.sound = true ∧ l.phase = .stopWalk ∧ l.steps.isSome = true := by
  simp [walkLegsSound, and_assoc]

/-- The plan of a motion fits its count, and the steps taken are those the plan has issued, before the first step as well as
after any (R27, R41). -/
structure Progress.PlanFits (p : Progress) : Prop where
  legs : planLegs p.count.isSome p.plan.legs = true
  placed : p.plan.Placed
  count : ∀ n, p.count = some n →
    countInRange n = true ∧ legSum p.plan.legs = n ∧ p.plan.issued = p.stepsTaken

/-- A RUNNING axis is on its plan. -/
structure Progress.RunsOnPlan (p : Progress) : Prop where
  fits : p.PlanFits
  taken : 1 ≤ p.stepsTaken
  place : p.plan.at p.rate = true
  rate : rateInRange p.rate = true

/-- A STOPPING axis is on its walk `w`, which ends within its count. -/
structure Progress.WalksOnPlan (p : Progress) (w : Track) : Prop where
  taken : 1 ≤ p.stepsTaken
  place : w.at p.rate = true ∨ w.leg = 0 ∧ w.inLeg = 0
  rate : rateInRange p.rate = true
  legs : walkLegsSound w.legs = true
  count : ∀ n, p.count = some n → countInRange n = true ∧ p.stepsTaken + (legSum w.legs - w.issued) ≤ n

theorem Progress.onPlan_running_iff {p : Progress} : p.onPlan .running = true ↔ p.RunsOnPlan := by
  have hcount : (match p.count with
      | some n => countInRange n && decide (legSum p.plan.legs = n) && decide (p.plan.issued = p.stepsTaken)
      | none => true) = true ↔ ∀ n, p.count = some n →
        countInRange n = true ∧ legSum p.plan.legs = n ∧ p.plan.issued = p.stepsTaken := by
    cases p.count <;> simp [and_assoc]
  simp only [Progress.onPlan, Bool.and_eq_true, decide_eq_true_eq]
  constructor
  · rintro ⟨⟨⟨⟨ht, hat⟩, hr⟩, hl⟩, hc⟩
    exact ⟨⟨hl, Track.placed_of_at hat, hcount.1 hc⟩, ht, hat, hr⟩
  · rintro ⟨⟨hl, -, hc⟩, ht, hat, hr⟩
    exact ⟨⟨⟨⟨ht, hat⟩, hr⟩, hl⟩, hcount.2 hc⟩

theorem Progress.onPlan_stopping_iff {p : Progress} :
    p.onPlan .stopping = true ↔ ∃ w, p.walk = some w ∧ p.WalksOnPlan w := by
  have hcount : ∀ w : Track, (match p.count with
      | some n => countInRange n && decide (p.stepsTaken + (legSum w.legs - w.issued) ≤ n)
      | none => true) = true ↔ ∀ n, p.count = some n →
        countInRange n = true ∧ p.stepsTaken + (legSum w.legs - w.issued) ≤ n := by
    intro w
    cases p.count <;> simp
  simp only [Progress.onPlan, Bool.and_eq_true, decide_eq_true_eq]
  cases p.walk with
  | none => simp
  | some w =>
    simp only [Bool.and_eq_true, Bool.or_eq_true, decide_eq_true_eq, Option.some.injEq, exists_eq_left']
    constructor
    · rintro ⟨⟨ht, hr⟩, ⟨hat, hl⟩, hc⟩
      exact ⟨ht, hat, hr, hl, (hcount w).1 hc⟩
    · rintro ⟨ht, hat, hr, hl, hc⟩
      exact ⟨⟨ht, hr⟩, ⟨hat, hl⟩, (hcount w).2 hc⟩

theorem Progress.PlanFits.counted {p : Progress} (h : p.PlanFits) {n : Nat} (hn : p.count = some n) :
    ∀ l ∈ p.plan.legs, l.Counted := fun l hl => by
  obtain ⟨hs, -, hc⟩ := planLegs_iff.1 h.legs l hl
  exact Leg.counted_of_sound hs (hc (by rw [hn]; rfl))

theorem Progress.WalksOnPlan.counted {p : Progress} {w : Track} (h : p.WalksOnPlan w) : ∀ l ∈ w.legs, l.Counted :=
  fun l hl => by
    obtain ⟨hs, -, hc⟩ := (walkLegsSound_iff.1 h.legs).2 l hl
    exact Leg.counted_of_sound hs hc

theorem Progress.WalksOnPlan.placed {p : Progress} {w : Track} (h : p.WalksOnPlan w) : w.Placed := by
  obtain hat | ⟨h0, h1⟩ := h.place
  · exact Track.placed_of_at hat
  · obtain ⟨l, ls, hl⟩ := List.exists_cons_of_ne_nil (walkLegsSound_iff.1 h.legs).1
    exact ⟨l, by simp [hl, h0], by simp [h1]⟩

theorem addSaturating_of_lt {top n : Nat} (h : n < top) : addSaturating top n = n + 1 := if_pos h

theorem one_le_addSaturating {top : Nat} (ht : 1 ≤ top) (n : Nat) : 1 ≤ addSaturating top n := by
  unfold addSaturating
  split <;> omega

/-- A progress record with one more step taken, of the leg `l` (R56). -/
def Progress.stepped (p : Progress) (l : Leg) : Progress :=
  { p with stepsTaken := addSaturating 8388607 p.stepsTaken, rate := l.rate }

/-- A step of the plan, the first or a later one, is the next step the plan issues (R55, R56). -/
theorem Progress.PlanFits.step {p : Progress} {l : Leg} {t : Track} (h : p.PlanFits)
    (ha : p.plan.advance = some (l, t)) : (Progress.stepped { p with plan := t } l).RunsOnPlan := by
  obtain ⟨hlegs, hmem, hat, hone⟩ := Track.advance_eq_some ha
  refine ⟨⟨hlegs ▸ h.legs, Track.placed_of_at hat, fun n hn => ?_⟩, one_le_addSaturating (by decide) _, hat,
    (Leg.sound_iff.1 (planLegs_iff.1 h.legs l hmem).1).1⟩
  obtain ⟨hr, hsum, hi⟩ := h.count n hn
  have hc := h.counted hn
  have hle := Track.issued_le (hlegs ▸ hc) (Track.placed_of_at hat)
  have hmax : 1 ≤ n ∧ n ≤ 8388607 := of_decide_eq_true hr
  rw [hone hc h.placed, hlegs, hsum, hi] at hle
  refine ⟨hr, hlegs ▸ hsum, ?_⟩
  change t.issued = addSaturating 8388607 p.stepsTaken
  rw [hone hc h.placed, hi, addSaturating_of_lt (by omega)]

/-- A step of the walk leaves one step fewer of it (R34, R55, R56). -/
theorem Progress.WalksOnPlan.step {p : Progress} {l : Leg} {w t : Track} (h : p.WalksOnPlan w)
    (ha : w.advance = some (l, t)) : (Progress.stepped { p with walk := some t } l).WalksOnPlan t := by
  obtain ⟨hlegs, hmem, hat, hone⟩ := Track.advance_eq_some ha
  refine ⟨one_le_addSaturating (by decide) _, .inl hat,
    (Leg.sound_iff.1 ((walkLegsSound_iff.1 h.legs).2 l hmem).1).1, hlegs ▸ h.legs, fun n hn => ?_⟩
  obtain ⟨hr, hleft⟩ := h.count n hn
  have hc := h.counted
  have hle := Track.issued_le (hlegs ▸ hc) (Track.placed_of_at hat)
  have hmax : 1 ≤ n ∧ n ≤ 8388607 := of_decide_eq_true hr
  rw [hone hc h.placed, hlegs] at hle
  refine ⟨hr, ?_⟩
  change addSaturating 8388607 p.stepsTaken + (legSum t.legs - t.issued) ≤ n
  rw [hone hc h.placed, hlegs, addSaturating_of_lt (by omega)]
  omega

/-- A stop walk that a RUNNING axis begins from its current rate is sound and ends within its count (R32 to R34, R67). -/
theorem Progress.RunsOnPlan.walk {p q : Progress} {stages : List Stage} {l : Leg} {ls : List Leg} (h : p.RunsOnPlan)
    (hs : stages.all Stage.inRange = true) (hl : walkLegs stages p.rate p = l :: ls) (hc : q.count = p.count)
    (ht : q.stepsTaken = p.stepsTaken) (hr : q.rate = p.rate) : q.WalksOnPlan (Track.start (l :: ls)) := by
  refine ⟨ht ▸ h.taken, .inr ⟨rfl, rfl⟩, hr ▸ h.rate, walkLegsSound_iff.2 ⟨by simp [Track.start], fun m hm => ?_⟩,
    fun n hn => ?_⟩
  · obtain ⟨hph, hcount, -, hrate⟩ := mem_walkLegs hs (hl ▸ hm)
    exact ⟨hcount.sound hrate, hph, by obtain ⟨k, hk, -⟩ := hcount; simp [hk]⟩
  · rw [hc] at hn
    obtain ⟨hr, hsum, hi⟩ := h.fits.count n hn
    have htaken := Track.issued_le (h.fits.counted hn) h.fits.placed
    have hle := legSum_walkLegs_le stages p.rate hn
    rw [hl] at hle
    refine ⟨hr, ?_⟩
    rw [Track.issued_start, ht]
    change p.stepsTaken + (legSum (l :: ls) - 0) ≤ n
    omega

/-! ### Axes on their plans -/

/-- What the operations of the engines keep together: the profiles that walks and plans are taken from, the segments they
are for, and every motion on its plan. -/
structure Planned (s : State) : Prop where
  profiles : s.ProfilesSound
  segments : s.SegmentsInRange
  onPlan : s.MotionOnPlan

variable {s t : State} {a : AxisId}

theorem Axis.onPlan_eq {x : Axis} {p : Progress} (hp : x.progress = some p) : x.onPlan = p.onPlan x.state := by
  simp [Axis.onPlan, hp]

/-- An axis that does not move has no plan to leave. -/
theorem Axis.onPlan_of_still {x : Axis} (h : x.progress = none ∨ x.state ≠ .running ∧ x.state ≠ .stopping) :
    x.onPlan = true := by
  unfold Axis.onPlan
  split
  · next p hp =>
    obtain ⟨h1, h2⟩ := h.resolve_left (by simp [hp])
    cases hs : x.state with
    | running => exact absurd hs h1
    | stopping => exact absurd hs h2
    | disabled | idle | waiting | held => rfl
  · rfl

theorem Planned.setAxis (h : Planned s) {x : Axis} (hq : x.queue <:+ (s.axis a).queue) (hx : x.onPlan = true) :
    Planned (s.setAxis a x) := by
  refine ⟨h.profiles, segmentsInRange_setAxis h.segments a hq, fun b => ?_⟩
  rw [State.axis_setAxis]
  split
  · exact hx
  · exact h.onPlan b

/-- A write of one axis that keeps its queue, its state and its progress record. -/
theorem Planned.setAxis_same (h : Planned s) {x : Axis} (hq : x.queue = (s.axis a).queue)
    (hs : x.state = (s.axis a).state) (hp : x.progress = (s.axis a).progress) : Planned (s.setAxis a x) := by
  refine h.setAxis (hq ▸ List.suffix_refl _) ?_
  have hx := h.onPlan a
  unfold Axis.onPlan at hx ⊢
  rwa [hs, hp]

/-- A change of neither axes nor profiles. -/
theorem Planned.of_eq (h : Planned s) (hx : t.axes = s.axes) (hp : t.profiles = s.profiles) : Planned t where
  profiles k := by rw [State.profile, hp]; exact h.profiles k
  segments a := by rw [State.axis, hx]; exact h.segments a
  onPlan a := by rw [State.axis, hx]; exact h.onPlan a

theorem foldl_planned {α : Type} (f : State → α → State) (hf : ∀ s x, Planned s → Planned (f s x)) (l : List α)
    (s : State) (h : Planned s) : Planned (l.foldl f s) :=
  List.foldlRecOn l f h fun s h x _ => hf s x h

theorem drawOrder_planned {α : Type} (l : List α) (h : Planned s) : Planned (drawOrder l s).2 := by
  obtain ⟨n, e⟩ := (drawOrder_spec l s).2
  rw [e]
  exact h.of_eq rfl rfl

theorem admitReport_planned (b : ReportBody) (h : Planned s) : Planned (admitReport b s) := h.of_eq rfl rfl

/-! ### Ends -/

theorem hold_planned (a : AxisId) (c : HeldCause) (h : Planned s) : Planned (hold a c s) :=
  h.setAxis (List.suffix_refl _) rfl

theorem becomeIdle_planned (a : AxisId) (h : Planned s) : Planned (becomeIdle a s) :=
  h.setAxis (List.suffix_refl _) rfl

theorem leaveByEstop_planned (a : AxisId) (h : Planned s) : Planned (leaveByEstop a s) :=
  h.setAxis (List.suffix_refl _) rfl

theorem flushQueue_planned (a : AxisId) (h : Planned s) : Planned (flushQueue a s) :=
  h.setAxis List.nil_suffix (h.onPlan a)

theorem settle_planned (a : AxisId) (c : Cause) (f : Bool) (h : Planned s) : Planned (settle a c f s) := by
  unfold settle
  split
  · exact leaveByEstop_planned a h
  · split
    · exact becomeIdle_planned a h
    · exact hold_planned a _ h

theorem closeSegment_planned (a : AxisId) (c : Cause) (h : Planned s) : Planned (closeSegment a c s) := by
  have hq := (closeSegment_frame a c s).queue a
  obtain ⟨-, e⟩ | ⟨g, rest, -, e⟩ := closeSegment_spec a c s
  · rw [e]
    exact h
  · rw [e] at hq ⊢
    dsimp only at hq ⊢
    split at hq
    · next hr =>
      rw [if_pos hr]
      exact admitReport_planned _ (h.setAxis (by simpa using hq) rfl)
    · next hr =>
      rw [if_neg hr]
      exact h.setAxis (by simpa using hq) rfl

/-- Breaks of meetings only hold axes (R104). -/
theorem notifyJoins_planned (a : AxisId) (c : Cause) (h : Planned s) : Planned (notifyJoins a c s) := by
  have frame := notifyJoins_frame a c s
  refine ⟨fun k => ?_, segmentsInRange_of_suffix h.segments frame.queue, fun b => ?_⟩
  · rw [State.profile, frame.profiles]
    exact h.profiles k
  · obtain e | ⟨-, hs, -⟩ := notifyJoins_breakFrame a c s b
    · rw [e]
      exact h.onPlan b
    · exact Axis.onPlan_of_still (.inr (by simp [hs]))

theorem endHeld_planned (a : AxisId) (c : Cause) (h : Planned s) : Planned (endHeld a c s) :=
  settle_planned a c _ (notifyJoins_planned a c (closeSegment_planned a c h))

/-! ### Stop requests -/

/-- A stop request, whatever ends the segment: a walk it begins is taken from the current rate and ends within the count. -/
theorem applyStop_planned {ender : AxisId → Cause → State → State} (he : ∀ a c s, Planned s → Planned (ender a c s))
    (a : AxisId) (c : Cause) (m : StopMode) (f : Bool) (h : Planned s) :
    Planned (applyStop ender a (stopEffect s a c m f) s) := by
  obtain ⟨-, e⟩ | ⟨g, p, hact, hcase⟩ := stopEffect_cases s a c m f
  · rw [e]
    exact h
  obtain ⟨-, -, hp⟩ := Axis.active_eq_some hact
  have hx : p.onPlan (s.axis a).state = true := (Axis.onPlan_eq hp).symm.trans (h.onPlan a)
  obtain ⟨c', e⟩ | ⟨hs, k, l, ls, hl, e⟩ | ⟨hs, e⟩ := hcase
  · rw [e]
    exact he a c' _ (h.setAxis (List.suffix_refl _) hx)
  · rw [hs] at hx
    have hruns := Progress.onPlan_running_iff.1 hx
    have hrate : (s.axis a).currentRate = p.rate := by simp [Axis.currentRate, hs, hp]
    rw [hrate] at hl
    rw [e]
    refine h.setAxis (List.suffix_refl _) (Progress.onPlan_stopping_iff.2 ⟨_, rfl, ?_⟩)
    exact hruns.walk (h.profiles k).2.1 hl rfl rfl rfl
  · rw [hs] at hx
    rw [e]
    exact h.setAxis (List.suffix_refl _) hx

theorem stopHeld_planned (a : AxisId) (c : Cause) (m : StopMode) (f : Bool) (h : Planned s) :
    Planned (stopHeld a c m f s) := applyStop_planned (fun a c _ => endHeld_planned a c) a c m f h

/-! ### Triggers and steps -/

theorem applyAction_planned (act : Action) (h : Planned s) : Planned (applyAction act s) := by
  cases act with
  | stopAxis k m => exact stopHeld_planned k _ m _ h
  | armSlot m =>
    simp only [applyAction, armSlot]
    split <;> exact h.of_eq rfl rfl
  | outSet | outClear | outPulse | pwmDuty | note => exact h.of_eq rfl rfl

theorem fireSlot_planned (p : Position) (i : Fin 24) (h : Planned s) : Planned (fireSlot p i s) := by
  unfold fireSlot
  split
  · exact h
  · refine applyAction_planned _ ?_
    split <;> exact h.of_eq rfl rfl

theorem fireAll_planned (p : Position) (set : List (Fin 24)) (h : Planned s) : Planned (fireAll p set s) :=
  foldl_planned _ (fun _ i => fireSlot_planned p i) set s h

theorem zoneRequest_planned (a : AxisId) (h : Planned s) : Planned (zoneRequest a s) := by
  unfold zoneRequest
  split
  · exact stopHeld_planned a _ _ _ h
  · exact h

theorem limitRequest_planned (met : Bool) (a : AxisId) (h : Planned s) : Planned (limitRequest met a s) := by
  unfold limitRequest
  split
  · exact stopHeld_planned a _ _ _ h
  · exact h

theorem afterStep_planned (a : AxisId) (d : Direction) (h : Planned s) : Planned (afterStep a d s) := by
  have hn : Planned { s with freeCount := s.freeCount + 1 } := h.of_eq rfl rfl
  unfold afterStep
  dsimp only
  split
  · split
    · exact zoneRequest_planned a h
    · split
      · exact limitRequest_planned _ a (fireAll_planned _ _ (zoneRequest_planned a hn))
      · split
        · exact limitRequest_planned _ a (zoneRequest_planned a (fireAll_planned _ _ hn))
        · exact zoneRequest_planned a (limitRequest_planned _ a (fireAll_planned _ _ hn))
  · exact limitRequest_planned _ a (fireAll_planned _ _ h)

/-- The next step of an axis on its plan is on it, too (R55, R56). -/
theorem Progress.onPlan_step {p q : Progress} {l : Leg} {st : AxisState} (hn : nextStep st p = some (l, q))
    (h : st = .running → p.PlanFits) (hw : st = .stopping → p.onPlan st = true) : (q.stepped l).onPlan st = true := by
  obtain ⟨rfl, t, ht, rfl⟩ | ⟨rfl, w, t, hwalk, ht, rfl⟩ := nextStep_cases hn
  · exact Progress.onPlan_running_iff.2 ((h rfl).step ht)
  · obtain ⟨w', hw', hwalks⟩ := Progress.onPlan_stopping_iff.1 (hw rfl)
    obtain rfl : w = w' := Option.some.inj (hwalk.symm.trans hw')
    exact Progress.onPlan_stopping_iff.2 ⟨t, rfl, hwalks.step ht⟩

theorem issueStep_planned (a : AxisId) (h : Planned s) : Planned (issueStep a s) := by
  unfold issueStep
  split
  · exact h
  · next g p hact =>
    split
    · exact h
    · next l q hn =>
      obtain ⟨-, -, hp⟩ := Axis.active_eq_some hact
      have hx : p.onPlan (s.axis a).state = true := (Axis.onPlan_eq hp).symm.trans (h.onPlan a)
      refine afterStep_planned a _ (h.setAxis (List.suffix_refl _) (Progress.onPlan_step hn (fun hs => ?_) fun _ => hx))
      rw [hs] at hx
      exact (Progress.onPlan_running_iff.1 hx).fits

/-! ### Activation -/

/-- A motion may start on these legs: a plan for its count, with a first step (R27, R53). -/
structure StartsOn (n : Option Nat) (legs : List Leg) : Prop where
  sound : planLegs n.isSome legs = true
  count : ∀ m, n = some m → countInRange m = true ∧ legSum legs = m
  first : ∃ rate, BeginsAt rate legs

theorem StartsOn.planFits {n : Option Nat} {legs : List Leg} (h : StartsOn n legs) (d : Option Direction)
    (t : Option Uptime) : (Progress.initial d n legs t).PlanFits := by
  obtain ⟨rate, l, ls, rfl, -, -⟩ := h.first
  exact ⟨h.sound, Track.placed_start (by simp), fun m hm => ⟨(h.count m hm).1, (h.count m hm).2, rfl⟩⟩

/-- The stages that a segment's plan is made of are in range (R20, R26). -/
theorem stagesOf_inRange (hs : s.ProfilesSound) (k : Option ProfileId) : (s.stagesOf k).all Stage.inRange = true := by
  cases k with
  | none => rfl
  | some k => exact (hs k).2.1

theorem startsOn_countedPlan {stages : List Stage} {rate n : Nat} (hs : stages.all Stage.inRange = true)
    (hr : rateInRange rate = true) (hn : countInRange n = true) :
    StartsOn (some n) (countedPlan (usedStages stages rate) rate n) := by
  have hu : ∀ x ∈ usedStages stages rate, 1 ≤ x.steps := fun x hx => (mem_usedStages hs hx).2.2
  have hn1 : 1 ≤ n ∧ n ≤ 8388607 := of_decide_eq_true hn
  refine ⟨planLegs_iff.2 fun l hl => ?_, ?_, _, countedPlan_beginsAt hn1.1 hu⟩
  · obtain ⟨hph, hc, hrate⟩ := mem_countedPlan hu hl
    exact ⟨hc.sound (hrate.inRange hs hr), hph, fun _ => by obtain ⟨m, hm, -⟩ := hc; simp [hm]⟩
  · rintro m ⟨⟩
    exact ⟨hn, legSum_countedPlan _ _ _⟩

theorem startsOn_uncountedPlan {stages : List Stage} {rate : Nat} (hs : stages.all Stage.inRange = true)
    (hr : rateInRange rate = true) : StartsOn none (uncountedPlan (usedStages stages rate) rate) := by
  refine ⟨planLegs_iff.2 fun l hl => ?_, (fun _ hm => nomatch hm), ?_⟩
  · obtain hl | hl := List.mem_append.1 hl
    · obtain ⟨x, hx, rfl⟩ := mem_legsOf hl
      obtain ⟨-, hxr, h1⟩ := mem_usedStages hs hx
      exact ⟨Leg.Counted.sound ⟨_, rfl, h1⟩ hxr, .inl rfl, fun h => nomatch h⟩
    · obtain rfl := List.mem_singleton.1 hl
      exact ⟨Leg.sound_iff.2 ⟨hr, fun n hn => nomatch hn⟩, .inr (.inr (.inl rfl)), fun h => nomatch h⟩
  · unfold uncountedPlan
    cases hu : usedStages stages rate with
    | nil => exact ⟨rate, _, _, rfl, rfl, rfl⟩
    | cons x xs =>
      have hx : 1 ≤ x.steps := (mem_usedStages (rate := rate) hs (by rw [hu]; exact List.mem_cons_self)).2.2
      exact ⟨x.rate, beginsAt_legsOf_cons hx xs _⟩

/-- The checks of a motion let it start only on a plan of its own rate and count (R51, R52). -/
theorem checkMotion_startsOn {rate : Nat} {k : Option ProfileId} {d d' : Direction} {n n' : Option Nat} {legs : List Leg}
    (hs : s.ProfilesSound) (hr : rateInRange rate = true) (hn : ∀ m, n = some m → countInRange m = true)
    (h : checkMotion a rate k d n s = .motion d' n' legs) : StartsOn n' legs := by
  have hk := stagesOf_inRange hs k
  unfold checkMotion at h
  dsimp only at h
  split at h
  · cases h
  · split at h
    · cases h
    · split at h
      · next m =>
        obtain ⟨-, rfl, rfl⟩ := Check.motion.inj h
        exact startsOn_countedPlan hk hr (hn m rfl)
      · obtain ⟨-, rfl, rfl⟩ := Check.motion.inj h
        exact startsOn_uncountedPlan hk hr

/-- A segment in range that passes its checks as a motion starts on a plan of its count (R50 to R53, R86). -/
theorem activationCheck_startsOn {g : Segment} {d : Direction} {n : Option Nat} {legs : List Leg} (hs : s.ProfilesSound)
    (hg : g.work.inRange a = true) (h : activationCheck a g s = .motion d n legs) : StartsOn n legs := by
  have uncounted : ∀ m, none = some m → countInRange m = true := fun _ hm => nomatch hm
  unfold activationCheck at h
  cases hw : g.work with
  | move count rate profile negative =>
    rw [hw] at h hg
    obtain ⟨hc, hr⟩ := Bool.and_eq_true_iff.1 hg
    refine checkMotion_startsOn hs hr ?_ h
    rintro m ⟨⟩
    exact hc
  | goto target rate profile =>
    rw [hw] at h hg
    dsimp only at h
    generalize target.toInt - (s.axis a).position.toInt = x at h
    split at h
    · cases h
    · next hfar =>
      split at h
      · cases h
      · next hzero =>
        refine checkMotion_startsOn hs hg ?_ h
        rintro m ⟨⟩
        exact decide_eq_true (by omega)
  | run rate profile negative seekSlow =>
    rw [hw] at h hg
    dsimp only at h
    split at h
    · next hm =>
      split at h
      · cases h
      · obtain ⟨-, rfl, rfl⟩ := Check.motion.inj h
        exact checkMotion_startsOn hs hg uncounted hm
    · exact checkMotion_startsOn hs hg uncounted h
  | home limit rate profile negative zero abrupt =>
    rw [hw] at h hg
    obtain ⟨-, hr⟩ := Bool.and_eq_true_iff.1 hg
    dsimp only at h
    split at h
    · next hm =>
      split at h
      · cases h
      · obtain ⟨-, rfl, rfl⟩ := Check.motion.inj h
        exact checkMotion_startsOn hs hr uncounted hm
    · exact checkMotion_startsOn hs hr uncounted h
  | dwell time => rw [hw] at h; cases h
  | join token members => rw [hw] at h; cases h
  | waitInput input wanted timeout =>
    rw [hw] at h
    dsimp only at h
    split at h <;> cases h

/-- A motion starts with its first step, and is on its plan then (R53). -/
theorem startMotion_planned {g : Segment} {rest : List Segment} {d : Direction} {n : Option Nat} {legs : List Leg}
    (hq : (s.axis a).queue = g :: rest) (hl : StartsOn n legs) (h : Planned s) : Planned (startMotion a d n legs s) := by
  have hfits := hl.planFits (some d) none
  obtain ⟨rate, l, ls, rfl, -, hh⟩ := hl.first
  obtain ⟨x, hx⟩ : ∃ x : Axis, x = { (s.axis a).turn d with
      state := .running, heldCause := .none, progress := some (Progress.initial (some d) n (l :: ls) none) } := ⟨_, rfl⟩
  have hqueue : x.queue = (s.axis a).queue := by rw [hx]; exact turn_queue _ d
  have hstate : x.state = .running := by rw [hx]
  have hactive : x.active = some (g, Progress.initial (some d) n (l :: ls) none) :=
    Axis.active_of_busy (.inl hstate) (hqueue.trans hq) (by rw [hx])
  have hnext := nextStep_initial (d := d) (n := n) (ls := ls) (t := none) hh
  have hstep := Progress.onPlan_step hnext (fun _ => hfits) (fun hs => nomatch hs)
  rw [startMotion, ← hx]
  simp only [issueStep, State.axis_setAxis_self, hactive, hstate, hnext]
  refine afterStep_planned a _ ?_
  rw [issue, State.setAxis_setAxis, State.axis_setAxis_self]
  refine h.setAxis (hqueue ▸ List.suffix_refl _) ?_
  rw [Axis.onPlan_eq rfl]
  dsimp only
  rw [hstate]
  exact hstep

theorem startWait_planned (a : AxisId) (l : Option Uptime) (h : Planned s) : Planned (startWait a l s) :=
  h.setAxis (List.suffix_refl _) rfl

theorem activate_planned (fuel : Nat) (a : AxisId) (h : Planned s) : Planned (activate fuel a s) := by
  induction fuel generalizing a s with
  | zero => exact h
  | succ fuel ih =>
    unfold activate
    split
    · exact becomeIdle_planned a h
    · next g rest hq =>
      split
      · exact hold_planned a _ h
      · split
        · exact hold_planned a _ h
        · split
          · split
            · exact ih a (closeSegment_planned a _ h)
            · exact endHeld_planned a _ h
          · next hc =>
            have hg : g.work.inRange a = true := List.all_eq_true.1 (h.segments a) g (by simp [hq])
            exact startMotion_planned hq (activationCheck_startsOn h.profiles hg hc) h
          · exact startWait_planned a _ h
          · next token members _ =>
            obtain e | ⟨l, e⟩ | ⟨l, e⟩ := arrive_joins a token members s
            · simp only [e]
              exact endHeld_planned a _ h
            · simp only [e]
              exact startWait_planned a _ (h.of_eq rfl rfl)
            · simp only [e]
              exact foldl_planned _ (fun _ b => ih b) _ _
                (foldl_planned _ (fun _ b => closeSegment_planned b _) _ _ (h.of_eq rfl rfl))

theorem activateHead_planned (a : AxisId) (h : Planned s) : Planned (activateHead a s) := activate_planned _ a h

theorem endSegment_planned (a : AxisId) (c : Cause) (h : Planned s) : Planned (endSegment a c s) := by
  unfold endSegment
  split
  · exact activateHead_planned a (notifyJoins_planned a c (closeSegment_planned a c h))
  · exact endHeld_planned a c h

theorem stopSegment_planned (a : AxisId) (c : Cause) (m : StopMode) (f : Bool) (h : Planned s) :
    Planned (stopSegment a c m f s) := applyStop_planned (fun a c _ => endSegment_planned a c) a c m f h

end Sys2Proof.Machine
end

section
/-! Changes of accepted levels, link loss and orders keep every motion on its plan (O59). -/

namespace Sys2Proof.Machine

variable {s t : State} {a : AxisId}

/-! ### Changes of accepted levels (R78 to R84, R87, R88, R94) -/

theorem limitChanged_planned (a : AxisId) (d : Direction) (h : Planned s) : Planned (limitChanged a d s) := by
  unfold limitChanged
  split
  · split
    · exact stopHeld_planned a _ _ _ h
    · exact h
  · exact h

theorem slowChanged_planned (a : AxisId) (h : Planned s) : Planned (slowChanged a s) := by
  unfold slowChanged
  split
  · split
    · split
      · exact stopSegment_planned a _ _ _ h
      · split
        · exact stopHeld_planned a _ _ _ h
        · exact h
    · exact h
  · exact h

/-- The home event sets a mark in the progress record, which no plan reads (R87). -/
theorem homeChanged_planned (a : AxisId) (h : Planned s) : Planned (homeChanged a s) := by
  unfold homeChanged
  split
  · next g p hact =>
    obtain ⟨-, -, hp⟩ := Axis.active_eq_some hact
    have hx : p.onPlan (s.axis a).state = true := (Axis.onPlan_eq hp).symm.trans (h.onPlan a)
    split
    · split
      · exact h
      · exact stopSegment_planned a _ _ _ (h.setAxis (List.suffix_refl _) hx)
    · exact h
  · exact h

theorem alarmChanged_planned (a : AxisId) (h : Planned s) : Planned (alarmChanged a s) := by
  unfold alarmChanged
  split
  case h_1 | h_2 | h_3 => exact stopHeld_planned a _ _ _ h
  case h_4 | h_5 => exact hold_planned a _ h
  case h_6 => exact h

theorem estopAtAxis_planned (a : AxisId) (h : Planned s) : Planned (estopAtAxis a s) := by
  unfold estopAtAxis
  split
  case h_1 | h_2 | h_3 => exact stopHeld_planned a _ _ _ h
  case h_4 | h_5 => exact leaveByEstop_planned a h
  case h_6 => exact h

theorem generalAtAxis_planned (i : Fin 4) (level : Bool) (a : AxisId) (h : Planned s) :
    Planned (generalAtAxis i level a s) := by
  unfold generalAtAxis
  split
  · split
    · split
      · exact endSegment_planned a _ h
      · exact h
    · exact h
  · exact h

theorem takeEstop_planned (r : Receiver) (h : Planned s) : Planned (takeEstop r s) := by
  cases r with
  | engine a => exact estopAtAxis_planned a h
  | queue => exact admitReport_planned _ h
  | outputs => exact h

theorem takeGeneral_planned (i : Fin 4) (level : Bool) (r : Receiver) (h : Planned s) :
    Planned (takeGeneral i level r s) := by
  cases r with
  | engine a => exact generalAtAxis_planned i level a h
  | queue => exact admitReport_planned _ h
  | outputs => exact h

theorem handOn_planned (i : InputId) (level : Bool) (h : Planned s) : Planned (handOn i level s) := by
  unfold handOn
  split
  · split
    · split
      · exact limitChanged_planned _ _ h
      · exact limitChanged_planned _ _ h
      · exact slowChanged_planned _ h
      · exact homeChanged_planned _ h
      · exact alarmChanged_planned _ h
    · exact h
  · exact foldl_planned _ (fun _ r => takeGeneral_planned _ _ r) _ _ (drawOrder_planned _ h)
  · split
    · exact foldl_planned _ (fun _ r => takeEstop_planned r) _ _ (drawOrder_planned _ h)
    · exact admitReport_planned _ h

theorem setInput_planned (i : InputId) (r : InputRecord) (h : Planned s) : Planned (s.setInput i r) :=
  h.of_eq (State.setInput_axes s i r) (State.setInput_profiles s i r)

theorem acceptRaw_planned (i : InputId) (h : Planned s) : Planned (acceptRaw i s) :=
  handOn_planned _ _ (setInput_planned _ _ h)

theorem filterRaw_planned (i : InputId) (h : Planned s) : Planned (filterRaw i s) := by
  unfold filterRaw
  dsimp only
  split
  · exact setInput_planned _ _ h
  · split
    · exact acceptRaw_planned i h
    · exact setInput_planned _ _ h

theorem restartFilter_planned (i : InputId) (h : Planned s) : Planned (restartFilter i s) := by
  unfold restartFilter
  dsimp only
  split
  · exact h
  · split
    · exact acceptRaw_planned i h
    · exact setInput_planned _ _ h

theorem reconfigure_planned (i : InputId) (changed high : Bool) (h : Planned s) :
    Planned (reconfigure i changed high s) := by
  unfold reconfigure
  extract_lets u
  have hu : Planned u := by
    unfold u
    split
    · exact restartFilter_planned i h
    · exact h
  split
  · exact hu
  · exact filterRaw_planned i (setInput_planned _ _ hu)

theorem applyInputConfig_planned (c : InputConfig) (h : Planned s) : Planned (applyInputConfig c s) :=
  applyInputConfig_keeps c s (h.of_eq rfl rfl) (fun _ _ h => h.of_eq rfl rfl) fun _ i _ _ => reconfigure_planned i _ _

/-! ### Link loss (R85, R129, R162) -/

theorem linkLossAtAxis_planned (a : AxisId) (h : Planned s) : Planned (linkLossAtAxis a s) := by
  unfold linkLossAtAxis
  split
  · exact stopHeld_planned a _ _ _ h
  · exact stopHeld_planned a _ _ _ h
  · exact h

theorem outputsAtLoss_planned (h : Planned s) : Planned (outputsAtLoss s) := by
  refine foldl_planned _ (fun s c h => ?_) _ _ (foldl_planned _ (fun s n h => ?_) _ s h)
  · exact h.of_eq rfl rfl
  · exact h.of_eq rfl rfl

theorem takeLinkLoss_planned (r : Receiver) (h : Planned s) : Planned (takeLinkLoss r s) := by
  cases r with
  | engine a => exact linkLossAtAxis_planned a h
  | queue => exact admitReport_planned _ h
  | outputs =>
    dsimp only [takeLinkLoss]
    exact outputsAtLoss_planned h

theorem loseLink_planned (h : Planned s) : Planned (loseLink s) :=
  foldl_planned _ (fun _ r => takeLinkLoss_planned r) _ _ (drawOrder_planned _ (h.of_eq rfl rfl))

/-! ### Orders that treat axes one by one (R16, R44 to R46, R74) -/

theorem enableAxis_planned (a : AxisId) (h : Planned s) : Planned (enableAxis a s) := by
  unfold enableAxis
  split
  · split
    · exact hold_planned a _ h
    · split
      · exact becomeIdle_planned a h
      · exact hold_planned a _ h
  · exact h

theorem disableAxis_planned (a : AxisId) (h : Planned s) : Planned (disableAxis a s) := by
  unfold disableAxis
  split
  case h_1 | h_2 =>
    exact h.setAxis (List.suffix_refl _) (Axis.onPlan_of_still (.inr ⟨by simp, by simp⟩))
  all_goals exact h

theorem resumeAxis_planned (a : AxisId) (h : Planned s) : Planned (resumeAxis a s) := by
  unfold resumeAxis
  split
  · split
    · exact becomeIdle_planned a h
    · exact activateHead_planned a (h.setAxis_same rfl rfl rfl)
  · exact h

theorem stopAxis_planned (mode : StopMode) (flush : Bool) (a : AxisId) (h : Planned s) :
    Planned (stopAxis mode flush a s) := by
  unfold stopAxis
  split
  case h_1 | h_2 | h_3 => exact stopHeld_planned a _ _ _ h
  case h_4 =>
    split
    · exact becomeIdle_planned a (flushQueue_planned a h)
    · exact h
  case h_5 => exact h
  case h_6 =>
    split
    · exact flushQueue_planned a h
    · exact h

theorem flushAxis_planned (a : AxisId) (h : Planned s) : Planned (flushAxis a s) := by
  by_cases hs : (s.axis a).state = .held
  · rw [flushAxis_held hs]
    exact becomeIdle_planned a (flushQueue_planned a h)
  · rw [flushAxis_not_held hs]
    exact flushQueue_planned a h

theorem appendSegment_planned {g : Segment} (hg : g.work.inRange a = true) (h : Planned s) :
    Planned (appendSegment a g s) where
  profiles := h.profiles
  segments := segmentsInRange_append hg h.segments
  onPlan b := by
    unfold appendSegment
    rw [State.axis_setAxis]
    split
    · exact h.onPlan a
    · exact h.onPlan b

/-- A profile may change under a motion: its plan and its walk have been made already (R23, R27). -/
theorem setProfile_planned (k : ProfileId) {l : List Stage} (hl : l.length ≤ 16 ∧ l.all Stage.inRange ∧ ascending l)
    (h : Planned s) : Planned (s.setProfile k l) where
  profiles k' := by
    rw [State.profile_setProfile]
    split
    · exact hl
    · exact h.profiles k'
  segments := h.segments
  onPlan := h.onPlan

/-! ### Every step -/

theorem deed_planned {i : Instr} (hd : Deed i s t) (h : Planned s) : Planned t := by
  cases hd with
  | rest hr => exact h.of_eq hr.axes hr.profiles
  | setAxis a c => exact h.setAxis_same rfl rfl rfl
  | enable m => exact foldl_planned _ (fun _ a => enableAxis_planned a) _ s h
  | disable m => exact foldl_planned _ (fun _ a => disableAxis_planned a) _ s h
  | setPosition a x => exact h.setAxis_same rfl rfl rfl
  | resume order n => exact foldl_planned _ (fun _ a => resumeAxis_planned a) _ _ (h.of_eq rfl rfl)
  | stop mode flush order n => exact foldl_planned _ (fun _ a => stopAxis_planned mode flush a) _ _ (h.of_eq rfl rfl)
  | queueSegment a g hg =>
    have happ := appendSegment_planned hg h
    split
    · exact activateHead_planned a happ
    · exact happ
  | flushQueue m => exact foldl_planned _ (fun _ a => flushAxis_planned a) _ s h
  | defineProfile k l hne hl hr ha => exact setProfile_planned k ⟨hl, hr, ha⟩ h
  | dropProfile k => exact setProfile_planned k ⟨Nat.zero_le _, rfl, rfl⟩ h
  | setInputConfig c => exact applyInputConfig_planned c h
  | linkLoss => exact loseLink_planned h
  | dwellEnd a => exact endSegment_planned a _ h
  | inputTimeout a => exact endHeld_planned a _ h
  | filterAcceptance j => exact acceptRaw_planned j h
  | rawChange j high => exact filterRaw_planned j (setInput_planned _ _ h)
  | stepIssue a => exact issueStep_planned a h
  | stepPulseStart a =>
    obtain ⟨hs, -, hq, hp, -⟩ := pulseStart_same (s.axis a)
    exact h.setAxis_same hq hs hp
  | stepPulseEnd a =>
    obtain ⟨hs, -, hq, hp, -⟩ := pulseEnd_same (s.axis a)
    exact h.setAxis_same hq hs hp
  | tailIntervalExpiry a => exact endSegment_planned a _ h
  | stopWalkEnd a c => exact endSegment_planned a c h

theorem fresh_planned (h : FreshBlocks t) : Planned t :=
  ⟨(fresh_poolSound h).profiles, (fresh_poolSound h).segments, fun a => by rw [fresh_axis h]; rfl⟩

theorem does_planned {i : Instr} (hd : Does i s t) (h : Planned s) : Planned t := by
  obtain ⟨-, hf⟩ | ⟨u, v, hu, hd, hv⟩ := hd
  · exact fresh_planned hf
  · have hv' := deed_planned hd (h.of_eq hu.frame.axes hu.frame.profiles)
    exact hv'.of_eq hv.frame.axes hv.frame.profiles

/-- Settles O59: a motion starts on a plan of its count, each step is the next of its plan or walk, a stop walk ends within
the count, and every other operation leaves a motion's record alone or ends it. -/
theorem motionStaysOnItsPlan : Obligations.MotionStaysOnItsPlan := by
  intro s t hs h
  obtain rfl | ⟨c, rest, he⟩ := step_cases h
  · exact hs.onPlan
  · exact (does_planned (exec_does he) ⟨hs.profiles, hs.segments, hs.onPlan⟩).onPlan

end Sys2Proof.Machine
end

section
/-! STOP RAMPED of a RUNNING axis (R67, R73, R74): the order for one axis is its stop request, which begins a walk where the
stop profile has one. -/

namespace Sys2Proof.Machine

variable {s : State} {a : AxisId} {h : Header}

theorem axesOf_axisBit (a : AxisId) : axesOf (axisBit a) = [a] := by
  revert a
  decide

/-- A STOP of one axis leaves no order to choose (R73). -/
theorem orderStop_one (a : AxisId) (abrupt flush : Bool) (s : State) :
    orderStop [(axisBit a).setWidth 8, flagByte abrupt, flagByte flush] s =
      .accepted (stopAxis (if abrupt then .abrupt else .ramped) flush a s)
        (stateCodes (stopAxis (if abrupt then .abrupt else .ramped) flush a s)) := by
  simp only [orderStop, readAxisMask_setWidth, readStopMode_flagByte, readFlag_flagByte, orBadValue, Option.bind_eq_bind,
    Option.bind_some, Option.pure_def, axesOf_axisBit, drawOrder, stopInOrder, List.foldl_cons, List.foldl_nil]

/-- A STOP of one axis, answered with the states it leaves (R73, R74). -/
theorem execStop_one (abrupt flush : Bool) (ht : s.Takes h) (hf : s.Fresh h) :
    exec (.stop h [(axisBit a).setWidth 8, flagByte abrupt, flagByte flush]) s = .next
      ((stopAxis (if abrupt then .abrupt else .ramped) flush a s.heard).answered h 0x17 0
        (stateCodes (stopAxis (if abrupt then .abrupt else .ramped) flush a s.heard))) :=
  congrArg Host.Outcome.next (takeOrder_accepted ht hf (by decide) (orderStop_one a abrupt flush s.heard))

/-- The walk a ramped stop takes does not depend on a pending flush (R67, R77). -/
theorem walkFrom_flush (s : State) (a : AxisId) (g : Segment) (p : Progress) (f : Bool) :
    s.walkFrom a g { p with flushPending := f } = s.walkFrom a g p := rfl

/-- A ramped request to a RUNNING axis that has a walk to take (R67). -/
theorem stopEffect_walks {g : Segment} {rest : List Segment} {p : Progress} {k : ProfileId} {legs : List Leg}
    (c : Cause) (flush : Bool) (hs : (s.axis a).state = .running) (hq : (s.axis a).queue = g :: rest)
    (hp : (s.axis a).progress = some p) (hw : s.walkFrom a g p = some (k, legs)) :
    stopEffect s a c .ramped flush = .walks { p with
      flushPending := p.flushPending || flush
      walk := some (Track.start legs), walkProfile := some k, recordedCause := some c } := by
  have hrate : (s.axis a).currentRate = p.rate := by simp [Axis.currentRate, hs, hp]
  have hramped := rampedStop_walkFrom a g { p with flushPending := p.flushPending || flush } c s hrate
  rw [walkFrom_flush, hw] at hramped
  simp only [stopEffect, Axis.active_of_busy (.inl hs) hq hp, hs, hramped]

/-- The walk from the stop profile's stages below the current rate, cut at the last planned step (R30, R32, R34). -/
theorem walkFrom_eq_some {g : Segment} {p : Progress} {k : ProfileId} {l : Leg} {ls : List Leg}
    (hk : g.work.profile = some k ∨ (g.work.profile = none ∧ (s.axis a).config.stopProfile = some k))
    (hl : (let stages := ((s.profile k).filter fun x => decide (x.rate < p.rate)).reverse
      let kept := match p.count with
        | some n => takeSteps (n - p.stepsTaken) stages
        | none => stages
      kept.map (fun x => Leg.mk .stopWalk x.rate (some x.steps)) = l :: ls)) :
    s.walkFrom a g p = some (k, l :: ls) := by
  have hor : g.work.profile.or (s.axis a).config.stopProfile = some k := by
    obtain h | ⟨h, h'⟩ := hk
    · rw [h, Option.some_or]
    · rw [h, Option.none_or, h']
  unfold State.walkFrom
  rw [hor]
  dsimp only at hl ⊢
  cases hc : p.count <;> rw [hc] at hl <;> rw [hl]

/-- Settles O29: the STOP of one axis is one ramped request, which begins the walk that the profile gives. -/
theorem rampedStopBeginsTheWalk : Obligations.RampedStopBeginsTheWalk := by
  intro h a flush g rest p k l ls s ht hf hs hq hp hflush hk hl
  have hw : s.heard.walkFrom a g p = some (k, l :: ls) := walkFrom_eq_some (s := s.heard) hk hl
  have heffect := stopEffect_walks (s := s.heard) .stoppedByOrder flush hs hq hp hw
  rw [hflush, Bool.false_or] at heffect
  have hrunning : (s.heard.axis a).state = .running := hs
  have hstop : stopAxis .ramped flush a s.heard = s.heard.setAxis a { s.axis a with
      state := .stopping
      progress := some { p with
        walk := some { legs := l :: ls, leg := 0, inLeg := 0 }, walkProfile := some k
        recordedCause := some .stoppedByOrder, flushPending := flush } } := by
    simp only [stopAxis, hrunning, stopHeld, heffect]
    rfl
  have hexec := execStop_one (a := a) false flush ht hf
  rw [if_neg Bool.false_ne_true, hstop] at hexec
  exact hexec

end Sys2Proof.Machine
end

section
/-! DEFINE_PROFILE, READ_PROFILE and DROP_PROFILE (R20 to R25): their verdicts in the words of the statement. -/

namespace Sys2Proof.Machine

variable {s : State} {k : ProfileId} {l : List Stage} {h : Header}

/-! ### References to a profile (R22) -/

theorem Axis.walked_eq_some_iff {x : Axis} :
    x.walked = some k ↔ x.state = .stopping ∧ ∃ p, x.progress = some p ∧ p.walkProfile = some k := by
  unfold Axis.walked
  split
  · next hs => simp [hs, Option.bind_eq_some_iff]
  · next hs => simp [hs]

theorem profileInUse_iff : s.profileInUse k = true ↔
    (∃ a : AxisId, ∃ g ∈ (s.axis a).queue, g.work.profile = some k) ∨
      ∃ a : AxisId, (s.axis a).state = .stopping ∧ ∃ p, (s.axis a).progress = some p ∧ p.walkProfile = some k := by
  simp only [State.profileInUse, Bool.or_eq_true, profileQueued_iff, profileWalked_iff, Axis.walked_eq_some_iff]

/-! ### DEFINE_PROFILE (R21, R23) -/

theorem length_stageBytes (l : List Stage) : (stageBytes l).length = 3 * l.length := by
  induction l with
  | nil => rfl
  | cons x l ih =>
    simp only [stageBytes, List.flatMap_cons, List.length_append, List.length_cons] at ih ⊢
    rw [ih, leBytes_two]
    simp only [List.length_cons, List.length_nil]
    omega

/-- What R21 refuses of a stage list whose quantities fit their bytes. -/
abbrev BadStages (l : List Stage) : Prop :=
  l = [] ∨ 16 < l.length ∨ l.all Stage.inRange = false ∨ ¬ (l.map Stage.rate).Pairwise (· < ·)

theorem toNat_length (hl : l.length ≤ 19) : (BitVec.ofNat 8 l.length).toNat = l.length := by
  rw [BitVec.toNat_ofNat]
  exact Nat.mod_eq_of_lt (by omega)

/-- A stage list is read back from its bytes, unless R21 refuses it. -/
theorem readStageList_stageBytes (hl : l.length ≤ 19) (hb : ∀ x ∈ l, x.rate < 65536 ∧ x.steps < 256) :
    readStageList (BitVec.ofNat 8 l.length) (stageBytes l) = if BadStages l then none else some l := by
  have hlen := toNat_length hl
  have hzero : BitVec.ofNat 8 l.length = 0 ↔ l = [] := by
    rw [← BitVec.toNat_inj, hlen, ← List.length_eq_zero_iff]
    rfl
  have hasc := ascending_iff (l := l)
  by_cases hnone : l = [] ∨ 16 < l.length
  · have hguard : BitVec.ofNat 8 l.length = 0 ∨ 16 < (BitVec.ofNat 8 l.length).toNat := by rwa [hzero, hlen]
    rw [readStageList, if_pos hguard, if_pos (hnone.elim .inl fun h => .inr (.inl h))]
    rfl
  · have hguard : ¬ (BitVec.ofNat 8 l.length = 0 ∨ 16 < (BitVec.ofNat 8 l.length).toNat) := by rwa [hzero, hlen]
    rw [not_or] at hnone
    rw [readStageList, if_neg hguard, readStages_stageBytes l hb]
    by_cases hr : l.all Stage.inRange = true
    · by_cases ha : ascending l = true
      · have hgood : ¬ BadStages l := by simp [BadStages, hnone.1, Nat.not_lt.1 hnone.2, hr, hasc.1 ha]
        rw [if_pos hr, if_neg hgood]
        exact if_pos ha
      · rw [if_pos hr, if_pos (.inr (.inr (.inr (mt hasc.2 ha))))]
        exact if_neg ha
    · rw [if_neg hr, if_pos (.inr (.inr (.inl (by simpa using hr))))]
      rfl

/-- The verdict on a stage list's bytes (R21, R23). -/
theorem orderDefineProfile_stageBytes (hl : l.length ≤ 19) (hb : ∀ x ∈ l, x.rate < 65536 ∧ x.steps < 256) (s : State) :
    orderDefineProfile (BitVec.ofNat 8 k.val :: BitVec.ofNat 8 l.length :: stageBytes l) s =
      if BadStages l then .refused .badValue
      else if s.profileInUse k then .refused .profileInUse
      else .accepted (s.setProfile k l) (BitVec.ofNat 8 l.length :: leBytes 2 (l.map Stage.steps).sum) := by
  have hlen : ¬ ((stageBytes l).length ≠ 3 * (BitVec.ofNat 8 l.length).toNat ∨ 19 < (BitVec.ofNat 8 l.length).toNat) := by
    rw [toNat_length hl, length_stageBytes]
    omega
  rw [orderDefineProfile, if_neg hlen, readIndex_ofNat k (by decide), readStageList_stageBytes hl hb]
  by_cases hbad : BadStages l
  · rw [if_pos hbad, if_pos hbad]
    rfl
  · rw [if_neg hbad, if_neg hbad]
    rfl

theorem execDefineProfile_eq (ht : s.Takes h) (hf : s.Fresh h) (hl : l.length ≤ 19)
    (hb : ∀ x ∈ l, x.rate < 65536 ∧ x.steps < 256) :
    exec (.defineProfile h (BitVec.ofNat 8 k.val :: BitVec.ofNat 8 l.length :: stageBytes l)) s = .next
      (if BadStages l then s.heard.answered h 0x30 3 []
      else if (∃ a : AxisId, ∃ g ∈ (s.axis a).queue, g.work.profile = some k) ∨
          (∃ a : AxisId, (s.axis a).state = .stopping ∧ ∃ p, (s.axis a).progress = some p ∧ p.walkProfile = some k) then
        s.heard.answered h 0x30 7 []
      else (s.heard.setProfile k l).answered h 0x30 0
        (BitVec.ofNat 8 l.length :: leBytes 2 (l.map Stage.steps).sum)) := by
  have hv := orderDefineProfile_stageBytes (k := k) hl hb s.heard
  have huse := profileInUse_iff (s := s.heard) (k := k)
  refine congrArg Host.Outcome.next ?_
  split
  · next hbad => exact takeOrder_refused (k := .badValue) ht hf (by decide) (hv.trans (if_pos hbad))
  · next hbad =>
    rw [if_neg hbad] at hv
    split
    · next hu => exact takeOrder_refused (k := .profileInUse) ht hf (by decide) (hv.trans (if_pos (huse.2 hu)))
    · next hu => exact takeOrder_accepted ht hf (by decide) (hv.trans (if_neg (mt huse.1 hu)))

/-! ### READ_PROFILE and DROP_PROFILE (R24, R25) -/

theorem profileStateCode_eq (l : List Stage) : profileStateCode l = if l = [] then 0 else 1 := by
  cases l <;> rfl

theorem execReadProfile_eq (ht : s.Takes h) (hf : s.Fresh h) :
    exec (.readProfile h [BitVec.ofNat 8 k.val]) s = .next (s.heard.answered h 0x31 0
      ([if s.profile k = [] then 0 else 1, BitVec.ofNat 8 (s.profile k).length] ++ stageBytes (s.profile k))) := by
  refine congrArg Host.Outcome.next (takeOrder_accepted ht hf (by decide) ?_)
  rw [orderReadProfile, readIndex_ofNat k (by decide), ← profileStateCode_eq]
  rfl

/-- The verdict on a profile to be dropped (R24). -/
theorem orderDropProfile_ofNat (k : ProfileId) (s : State) : orderDropProfile [BitVec.ofNat 8 k.val] s =
    if s.profileInUse k || s.profileNamedForStopping k then .refused .profileInUse
    else .accepted (s.setProfile k []) [if s.profile k = [] then 0 else 1] := by
  rw [orderDropProfile, readIndex_ofNat k (by decide), ← profileStateCode_eq]
  rfl

theorem execDropProfile_eq (ht : s.Takes h) (hf : s.Fresh h) :
    exec (.dropProfile h [BitVec.ofNat 8 k.val]) s = .next
      (if (∃ a : AxisId, ∃ g ∈ (s.axis a).queue, g.work.profile = some k) ∨
          (∃ a : AxisId, (s.axis a).state = .stopping ∧ ∃ p, (s.axis a).progress = some p ∧ p.walkProfile = some k) ∨
          (∃ a : AxisId, (s.axis a).config.stopProfile = some k) then
        s.heard.answered h 0x32 7 []
      else (s.heard.setProfile k []).answered h 0x32 0 [if s.profile k = [] then 0 else 1]) := by
  have hv := orderDropProfile_ofNat k s.heard
  have hnamed : (s.heard.profileInUse k || s.heard.profileNamedForStopping k) = true ↔ _ ∨ _ ∨ _ :=
    Bool.or_eq_true_iff.trans ((or_congr profileInUse_iff profileNamedForStopping_iff).trans or_assoc)
  refine congrArg Host.Outcome.next ?_
  split
  · next hn => exact takeOrder_refused (k := .profileInUse) ht hf (by decide) (hv.trans (if_pos (hnamed.2 hn)))
  · next hn => exact takeOrder_accepted ht hf (by decide) (hv.trans (if_neg (mt hnamed.1 hn)))

/-- Settles O33: the bytes of a stage list are read back or refused, and the checks are those of R22. -/
theorem profileOrdersActOnTheLibrary : Obligations.ProfileOrdersActOnTheLibrary :=
  ⟨fun _ _ _ _ ht hf hl hb => execDefineProfile_eq ht hf hl hb,
    fun _ _ _ ht hf => ⟨execReadProfile_eq ht hf, execDropProfile_eq ht hf⟩⟩

end Sys2Proof.Machine
end

section
/-! The guards of motion (O60), axis by axis: what the operations of the engines make of an axis that is busy, and of the
levels that guard it. -/

namespace Sys2Proof.Machine

variable {s t : State} {a b : AxisId}

/-! ### The levels that guard an axis (R48, R52, R57, R78, R81, R82) -/

/-- The limit on the side of a direction. -/
def limitLine : Direction → AxisLine
  | .positive => .limp
  | .negative => .limn

theorem limitAhead_eq (a : AxisId) (d : Direction) (s : State) :
    limitAhead a d s = s.accepted (.axis a (limitLine d)) := by
  cases d <;> rfl

/-- The inputs that must be inactive while axis `a` is busy with a motion in direction `d`, or with a wait. -/
def guardInputs (a : AxisId) (d : Option Direction) : List InputId :=
  .estop :: .axis a .alarm :: (d.map fun d => InputId.axis a (limitLine d)).toList

/-- The guards of one axis hold. -/
def State.GuardedAt (s : State) (a : AxisId) : Prop :=
  (s.axis a).busy = true → ∀ j ∈ guardInputs a (s.axis a).heading, s.accepted j = false

theorem motionGuarded_iff : s.MotionGuarded ↔ ∀ a, s.GuardedAt a := by
  refine forall_congr' fun a => imp_congr_right fun _ => ?_
  cases (s.axis a).heading <;>
    simp [guardInputs, limitAhead_eq, State.estopActive, State.alarmActive]

theorem accepted_of_inputs (h : t.inputs = s.inputs) (j : InputId) : t.accepted j = s.accepted j := by
  cases j <;> simp [State.accepted, State.input, h]

/-- An axis that is not busy needs no guard. -/
theorem guardedAt_of_rest (h : (s.axis a).busy = false) : s.GuardedAt a := fun hb => by simp [h] at hb

/-- The guards read the axis and the accepted levels. -/
theorem State.GuardedAt.congr (h : s.GuardedAt a) (hx : t.axis a = s.axis a)
    (hi : ∀ j, t.accepted j = true → s.accepted j = true) : t.GuardedAt a := by
  intro hb j hj
  rw [hx] at hb hj
  exact Bool.eq_false_iff.2 fun ht => Bool.eq_false_iff.1 (h hb j hj) (hi j ht)

theorem State.GuardedAt.of_eq (h : s.GuardedAt a) (hx : t.axes = s.axes) (hi : t.inputs = s.inputs) : t.GuardedAt a :=
  h.congr (by rw [State.axis, hx]; rfl) fun j => by rw [accepted_of_inputs hi]; exact id

/-- A write of an axis that is guarded as it is written. -/
theorem State.GuardedAt.setAxis_guarded (h : s.GuardedAt b) {x : Axis}
    (hx : x.busy = true → ∀ j ∈ guardInputs a x.heading, s.accepted j = false) : (s.setAxis a x).GuardedAt b := by
  by_cases e : b = a
  · subst e
    intro hb j hj
    rw [State.axis_setAxis_self] at hb hj
    exact hx hb j hj
  · exact h.congr (State.axis_setAxis_ne s a b x e) fun _ => id

/-- A write of an axis that is then not busy. -/
theorem State.GuardedAt.setAxis_rest (h : s.GuardedAt b) {x : Axis} (hx : x.busy = false) : (s.setAxis a x).GuardedAt b :=
  h.setAxis_guarded fun hb => by simp [hx] at hb

/-- A write of an axis that was busy before, in its direction or in none. -/
theorem State.GuardedAt.setAxis_busy (h : s.GuardedAt b) {x : Axis} (hb : x.busy = true → (s.axis a).busy = true)
    (hd : x.heading = none ∨ x.heading = (s.axis a).heading) : (s.setAxis a x).GuardedAt b := by
  by_cases e : b = a
  · subst e
    refine h.setAxis_guarded fun hx j hj => h (hb hx) j ?_
    obtain hd | hd := hd
    · rw [hd] at hj
      simp only [guardInputs, Option.map_none, Option.toList_none, List.mem_cons] at hj ⊢
      tauto
    · rwa [hd] at hj
  · exact h.congr (State.axis_setAxis_ne s a b x e) fun _ => id

theorem foldl_guardedAt {α : Type} (f : State → α → State) (hf : ∀ s x, s.GuardedAt b → (f s x).GuardedAt b) (l : List α)
    (s : State) (h : s.GuardedAt b) : (l.foldl f s).GuardedAt b :=
  List.foldlRecOn l f h fun s h x _ => hf s x h

theorem drawOrder_guardedAt {α : Type} (l : List α) (h : s.GuardedAt b) : (drawOrder l s).2.GuardedAt b := by
  obtain ⟨n, e⟩ := (drawOrder_spec l s).2
  rw [e]
  exact h.of_eq rfl rfl

theorem admitReport_guardedAt (r : ReportBody) (h : s.GuardedAt b) : (admitReport r s).GuardedAt b := h.of_eq rfl rfl

/-! ### Ends -/

theorem hold_guardedAt (a : AxisId) (c : HeldCause) (h : s.GuardedAt b) : (hold a c s).GuardedAt b :=
  h.setAxis_rest rfl

theorem becomeIdle_guardedAt (a : AxisId) (h : s.GuardedAt b) : (becomeIdle a s).GuardedAt b := h.setAxis_rest rfl

theorem flushQueue_guardedAt (a : AxisId) (h : s.GuardedAt b) : (flushQueue a s).GuardedAt b :=
  h.setAxis_busy id (.inr rfl)

theorem leaveByEstop_rests (a : AxisId) (s : State) : ((leaveByEstop a s).axis a).busy = false := by
  rw [leaveByEstop, State.axis_setAxis_self]
  cases (s.axis a).config.estopDisables <;> rfl

/-- What an end that holds its axis leaves it in is no busy state (R60). -/
theorem settle_rests (a : AxisId) (c : Cause) (f : Bool) (s : State) : ((settle a c f s).axis a).busy = false := by
  unfold settle
  split
  · exact leaveByEstop_rests a s
  · split
    · rw [becomeIdle, State.axis_setAxis_self]
      rfl
    · rw [hold, State.axis_setAxis_self]
      rfl

theorem endHeld_rests (a : AxisId) (c : Cause) (s : State) : ((endHeld a c s).axis a).busy = false :=
  settle_rests a c _ _

theorem leaveByEstop_guardedAt (a : AxisId) (h : s.GuardedAt b) : (leaveByEstop a s).GuardedAt b :=
  h.setAxis_rest (by simpa [leaveByEstop] using leaveByEstop_rests a s)

theorem settle_guardedAt (a : AxisId) (c : Cause) (f : Bool) (h : s.GuardedAt b) : (settle a c f s).GuardedAt b := by
  unfold settle
  split
  · exact leaveByEstop_guardedAt a h
  · split
    · exact becomeIdle_guardedAt a h
    · exact hold_guardedAt a _ h

theorem closeSegment_guardedAt (a : AxisId) (c : Cause) (h : s.GuardedAt b) : (closeSegment a c s).GuardedAt b := by
  obtain ⟨-, e⟩ | ⟨g, rest, -, e⟩ := closeSegment_spec a c s
  · rw [e]
    exact h
  · rw [e]
    dsimp only
    split
    · exact admitReport_guardedAt _ (h.setAxis_busy id (.inl rfl))
    · exact h.setAxis_busy id (.inl rfl)

/-- Breaks of meetings only hold axes (R104). -/
theorem notifyJoins_guardedAt (a : AxisId) (c : Cause) (h : s.GuardedAt b) : (notifyJoins a c s).GuardedAt b := by
  obtain e | ⟨-, hs, -⟩ := notifyJoins_breakFrame a c s b
  · exact h.congr e fun j => by rw [accepted_of_inputs (notifyJoins_frame a c s).inputs]; exact id
  · exact guardedAt_of_rest (by simp [Axis.busy, hs])

theorem endHeld_guardedAt (a : AxisId) (c : Cause) (h : s.GuardedAt b) : (endHeld a c s).GuardedAt b :=
  settle_guardedAt a c _ (notifyJoins_guardedAt a c (closeSegment_guardedAt a c h))

/-! ### Stop requests -/

theorem Axis.busy_of_active {x : Axis} {g : Segment} {p : Progress} (h : x.active = some (g, p)) : x.busy = true :=
  Axis.busy_iff.2 (Axis.active_eq_some h).1

theorem Axis.heading_eq {x : Axis} {p : Progress} (h : x.progress = some p) : x.heading = p.direction := by
  simp [Axis.heading, h]

/-- A stop request, whatever ends the segment: an axis that goes on goes on in its direction. -/
theorem applyStop_guardedAt {ender : AxisId → Cause → State → State}
    (he : ∀ a c s, s.GuardedAt b → (ender a c s).GuardedAt b) (a : AxisId) (c : Cause) (m : StopMode) (f : Bool)
    (h : s.GuardedAt b) : (applyStop ender a (stopEffect s a c m f) s).GuardedAt b := by
  obtain ⟨-, e⟩ | ⟨g, p, hact, hcase⟩ := stopEffect_cases s a c m f
  · rw [e]
    exact h
  obtain ⟨-, -, hp⟩ := Axis.active_eq_some hact
  have hbusy := Axis.busy_of_active hact
  have hhead := Axis.heading_eq hp
  obtain ⟨c', e⟩ | ⟨-, k, l, ls, -, e⟩ | ⟨-, e⟩ := hcase
  · rw [e]
    exact he a c' _ (h.setAxis_busy id (.inr hhead.symm))
  · rw [e]
    exact h.setAxis_busy (fun _ => hbusy) (.inr hhead.symm)
  · rw [e]
    exact h.setAxis_busy (fun _ => hbusy) (.inr hhead.symm)

theorem stopHeld_guardedAt (a : AxisId) (c : Cause) (m : StopMode) (f : Bool) (h : s.GuardedAt b) :
    (stopHeld a c m f s).GuardedAt b := applyStop_guardedAt (fun a c _ => endHeld_guardedAt a c) a c m f h

/-- An abrupt request ends the segment of an axis that has one (R69, R70, R75). -/
theorem stopHeld_abrupt_rests {g : Segment} {p : Progress} (c : Cause) (f : Bool) (hact : (s.axis a).active = some (g, p)) :
    ((stopHeld a c .abrupt f s).axis a).busy = false := by
  obtain ⟨hs | hs | hs, -, -⟩ := Axis.active_eq_some hact <;>
    simp only [stopHeld, stopEffect, hact, hs, applyStop] <;> exact endHeld_rests a _ _

/-! ### Triggers and steps -/

theorem applyAction_guardedAt (act : Action) (h : s.GuardedAt b) : (applyAction act s).GuardedAt b := by
  cases act with
  | stopAxis k m => exact stopHeld_guardedAt k _ m _ h
  | armSlot m =>
    simp only [applyAction, armSlot]
    split <;> exact h.of_eq rfl rfl
  | outSet | outClear | outPulse | pwmDuty | note => exact h.of_eq rfl rfl

theorem fireSlot_guardedAt (p : Position) (i : Fin 24) (h : s.GuardedAt b) : (fireSlot p i s).GuardedAt b := by
  unfold fireSlot
  split
  · exact h
  · refine applyAction_guardedAt _ ?_
    split <;> exact h.of_eq rfl rfl

theorem fireAll_guardedAt (p : Position) (set : List (Fin 24)) (h : s.GuardedAt b) : (fireAll p set s).GuardedAt b :=
  foldl_guardedAt _ (fun _ i => fireSlot_guardedAt p i) set s h

theorem zoneRequest_guardedAt (a : AxisId) (h : s.GuardedAt b) : (zoneRequest a s).GuardedAt b := by
  unfold zoneRequest
  split
  · exact stopHeld_guardedAt a _ _ _ h
  · exact h

theorem limitRequest_guardedAt (met : Bool) (a : AxisId) (h : s.GuardedAt b) : (limitRequest met a s).GuardedAt b := by
  unfold limitRequest
  split
  · exact stopHeld_guardedAt a _ _ _ h
  · exact h

theorem afterStep_guardedAt (a : AxisId) (d : Direction) (h : s.GuardedAt b) : (afterStep a d s).GuardedAt b := by
  have hn : State.GuardedAt { s with freeCount := s.freeCount + 1 } b := h.of_eq rfl rfl
  unfold afterStep
  dsimp only
  split
  · split
    · exact zoneRequest_guardedAt a h
    · split
      · exact limitRequest_guardedAt _ a (fireAll_guardedAt _ _ (zoneRequest_guardedAt a hn))
      · split
        · exact limitRequest_guardedAt _ a (zoneRequest_guardedAt a (fireAll_guardedAt _ _ hn))
        · exact zoneRequest_guardedAt a (limitRequest_guardedAt _ a (fireAll_guardedAt _ _ hn))
  · exact limitRequest_guardedAt _ a (fireAll_guardedAt _ _ h)

/-- A step is taken in the direction of the motion it belongs to (R55). -/
theorem nextStep_direction {st : AxisState} {p q : Progress} {l : Leg} (h : nextStep st p = some (l, q)) :
    q.direction = p.direction := by
  obtain ⟨-, t, -, rfl⟩ | ⟨-, w, t, -, -, rfl⟩ := nextStep_cases h <;> rfl

theorem issueStep_guardedAt (a : AxisId) (h : s.GuardedAt b) : (issueStep a s).GuardedAt b := by
  unfold issueStep
  split
  · exact h
  · next g p hact =>
    split
    · exact h
    · next l q hq =>
      obtain ⟨-, -, hp⟩ := Axis.active_eq_some hact
      have hhead := (nextStep_direction hq).trans (Axis.heading_eq hp).symm
      exact afterStep_guardedAt a _ (h.setAxis_busy id (.inr hhead))

/-! ### Activation and ends that lead on -/

/-- A motion passes its checks only where the limit on its side is inactive (R52). -/
theorem checkMotion_limit {rate : Nat} {profile : Option ProfileId} {d d' : Direction} {count n : Option Nat}
    {legs : List Leg} (h : checkMotion a rate profile d count s = .motion d' n legs) : limitAhead a d' s = false := by
  unfold checkMotion at h
  dsimp only at h
  split at h
  · cases h
  · split at h
    · cases h
    · next hl =>
      split at h <;> obtain ⟨rfl, -, -⟩ := Check.motion.inj h <;> simpa using hl

/-- The checks of a segment start a motion only where those of its motion do (R49). -/
theorem activationCheck_limit {g : Segment} {d : Direction} {n : Option Nat} {legs : List Leg}
    (h : activationCheck a g s = .motion d n legs) : limitAhead a d s = false := by
  unfold activationCheck at h
  split at h
  · exact checkMotion_limit h
  · dsimp only at h
    split at h
    · cases h
    · split at h
      · cases h
      · exact checkMotion_limit h
  · split at h
    · next hm =>
      split at h
      · cases h
      · obtain ⟨rfl, -, -⟩ := Check.motion.inj h
        exact checkMotion_limit hm
    · exact checkMotion_limit h
  · split at h
    · next hm =>
      split at h
      · cases h
      · obtain ⟨rfl, -, -⟩ := Check.motion.inj h
        exact checkMotion_limit hm
    · exact checkMotion_limit h
  · cases h
  · cases h
  · split at h <;> cases h

/-- A motion starts where its guards allow it (R53). -/
theorem startMotion_guardedAt {d : Direction} {n : Option Nat} {legs : List Leg} (he : s.estopActive = false)
    (hal : s.alarmActive a = false) (hl : limitAhead a d s = false) (h : s.GuardedAt b) :
    (startMotion a d n legs s).GuardedAt b := by
  refine issueStep_guardedAt a (h.setAxis_guarded fun _ j hj => ?_)
  rw [Axis.heading_eq rfl] at hj
  rw [limitAhead_eq] at hl
  simp only [guardInputs, Progress.initial, Option.map_some, Option.toList_some, List.mem_cons, List.not_mem_nil,
    or_false] at hj
  obtain rfl | rfl | rfl := hj
  · exact he
  · exact hal
  · exact hl

/-- A wait starts where its guards allow it (R53). -/
theorem startWait_guardedAt (l : Option Uptime) (he : s.estopActive = false) (hal : s.alarmActive a = false)
    (h : s.GuardedAt b) : (startWait a l s).GuardedAt b := by
  refine h.setAxis_guarded fun _ j hj => ?_
  rw [Axis.heading_eq rfl] at hj
  simp only [guardInputs, Progress.initial, Option.map_none, Option.toList_none, List.mem_cons, List.not_mem_nil,
    or_false] at hj
  obtain rfl | rfl := hj
  · exact he
  · exact hal

theorem activate_guardedAt (fuel : Nat) (a : AxisId) (h : s.GuardedAt b) : (activate fuel a s).GuardedAt b := by
  induction fuel generalizing a s with
  | zero => exact h
  | succ fuel ih =>
    unfold activate
    split
    · exact becomeIdle_guardedAt a h
    · split
      · exact hold_guardedAt a _ h
      · next he =>
        split
        · exact hold_guardedAt a _ h
        · next hal =>
          have he := Bool.eq_false_iff.2 he
          have hal := Bool.eq_false_iff.2 hal
          split
          · split
            · exact ih a (closeSegment_guardedAt a _ h)
            · exact endHeld_guardedAt a _ h
          · next hc => exact startMotion_guardedAt he hal (activationCheck_limit hc) h
          · exact startWait_guardedAt _ he hal h
          · next token members _ =>
            obtain e | ⟨l, e⟩ | ⟨l, e⟩ := arrive_joins a token members s
            · simp only [e]
              exact endHeld_guardedAt a _ h
            · simp only [e]
              exact startWait_guardedAt _ he hal (h.of_eq rfl rfl)
            · simp only [e]
              exact foldl_guardedAt _ (fun _ b => ih b) _ _
                (foldl_guardedAt _ (fun _ b => closeSegment_guardedAt b _) _ _ (h.of_eq rfl rfl))

theorem activateHead_guardedAt (a : AxisId) (h : s.GuardedAt b) : (activateHead a s).GuardedAt b :=
  activate_guardedAt _ a h

theorem endSegment_guardedAt (a : AxisId) (c : Cause) (h : s.GuardedAt b) : (endSegment a c s).GuardedAt b := by
  unfold endSegment
  split
  · exact activateHead_guardedAt a (notifyJoins_guardedAt a c (closeSegment_guardedAt a c h))
  · exact endHeld_guardedAt a c h

theorem stopSegment_guardedAt (a : AxisId) (c : Cause) (m : StopMode) (f : Bool) (h : s.GuardedAt b) :
    (stopSegment a c m f s).GuardedAt b := applyStop_guardedAt (fun a c _ => endSegment_guardedAt a c) a c m f h

end Sys2Proof.Machine
end

section
/-! Changes of accepted levels and the guards (O60): a level that guards an axis stops it as it becomes active, and every
other change leaves its guards as they are (R78, R81, R82, R135, R140). -/

namespace Sys2Proof.Machine

variable {s t : State} {a b : AxisId}

/-! ### What a change of a level leaves of the guards (R137) -/

theorem limitChanged_guardedAt (a : AxisId) (d : Direction) (h : s.GuardedAt b) : (limitChanged a d s).GuardedAt b := by
  unfold limitChanged
  split
  · split
    · exact stopHeld_guardedAt a _ _ _ h
    · exact h
  · exact h

theorem slowChanged_guardedAt (a : AxisId) (h : s.GuardedAt b) : (slowChanged a s).GuardedAt b := by
  unfold slowChanged
  split
  · split
    · split
      · exact stopSegment_guardedAt a _ _ _ h
      · split
        · exact stopHeld_guardedAt a _ _ _ h
        · exact h
    · exact h
  · exact h

theorem homeChanged_guardedAt (a : AxisId) (h : s.GuardedAt b) : (homeChanged a s).GuardedAt b := by
  unfold homeChanged
  split
  · next g p hact =>
    obtain ⟨-, -, hp⟩ := Axis.active_eq_some hact
    split
    · split
      · exact h
      · exact stopSegment_guardedAt a _ _ _ (h.setAxis_busy id (.inr (Axis.heading_eq hp).symm))
    · exact h
  · exact h

theorem alarmChanged_guardedAt (a : AxisId) (h : s.GuardedAt b) : (alarmChanged a s).GuardedAt b := by
  unfold alarmChanged
  split
  case h_1 | h_2 | h_3 => exact stopHeld_guardedAt a _ _ _ h
  case h_4 | h_5 => exact hold_guardedAt a _ h
  case h_6 => exact h

theorem estopAtAxis_guardedAt (a : AxisId) (h : s.GuardedAt b) : (estopAtAxis a s).GuardedAt b := by
  unfold estopAtAxis
  split
  case h_1 | h_2 | h_3 => exact stopHeld_guardedAt a _ _ _ h
  case h_4 | h_5 => exact leaveByEstop_guardedAt a h
  case h_6 => exact h

theorem generalAtAxis_guardedAt (i : Fin 4) (level : Bool) (a : AxisId) (h : s.GuardedAt b) :
    (generalAtAxis i level a s).GuardedAt b := by
  unfold generalAtAxis
  split
  · split
    · split
      · exact endSegment_guardedAt a _ h
      · exact h
    · exact h
  · exact h

theorem takeEstop_guardedAt (r : Receiver) (h : s.GuardedAt b) : (takeEstop r s).GuardedAt b := by
  cases r with
  | engine a => exact estopAtAxis_guardedAt a h
  | queue => exact admitReport_guardedAt _ h
  | outputs => exact h

theorem takeGeneral_guardedAt (i : Fin 4) (level : Bool) (r : Receiver) (h : s.GuardedAt b) :
    (takeGeneral i level r s).GuardedAt b := by
  cases r with
  | engine a => exact generalAtAxis_guardedAt i level a h
  | queue => exact admitReport_guardedAt _ h
  | outputs => exact h

theorem handOn_guardedAt (i : InputId) (level : Bool) (h : s.GuardedAt b) : (handOn i level s).GuardedAt b := by
  unfold handOn
  split
  · split
    · split
      · exact limitChanged_guardedAt _ _ h
      · exact limitChanged_guardedAt _ _ h
      · exact slowChanged_guardedAt _ h
      · exact homeChanged_guardedAt _ h
      · exact alarmChanged_guardedAt _ h
    · exact h
  · exact foldl_guardedAt _ (fun _ r => takeGeneral_guardedAt _ _ r) _ _ (drawOrder_guardedAt _ h)
  · split
    · exact foldl_guardedAt _ (fun _ r => takeEstop_guardedAt r) _ _ (drawOrder_guardedAt _ h)
    · exact admitReport_guardedAt _ h

/-! ### A guarding level that becomes active stops its axis (R78, R81, R82) -/

/-- In the book, a busy axis has an active segment (R40). -/
theorem Book.active_of_busy (h : Book ∅ s) (hb : (s.axis a).busy = true) : ∃ g p, (s.axis a).active = some (g, p) := by
  have hf := h.fits a (Set.notMem_empty a)
  unfold Axis.fits at hf
  split at hf <;> simp_all [Axis.busy, Axis.active]

theorem limitChanged_rests {d : Direction} (h : Book ∅ s) (hd : (s.axis a).heading = some d) :
    ((limitChanged a d s).axis a).busy = false := by
  by_cases hb : (s.axis a).busy = true
  · obtain ⟨g, p, hact⟩ := h.active_of_busy hb
    obtain ⟨-, -, hp⟩ := Axis.active_eq_some hact
    rw [Axis.heading_eq hp] at hd
    simp only [limitChanged, hact, if_pos hd]
    exact stopHeld_abrupt_rests _ _ hact
  · have hnone : (s.axis a).active = none := by
      cases hact : (s.axis a).active with
      | none => rfl
      | some v => exact absurd (Axis.busy_of_active hact) hb
    simp only [limitChanged, hnone]
    exact Bool.eq_false_iff.2 hb

theorem alarmChanged_rests (h : Book ∅ s) : ((alarmChanged a s).axis a).busy = false := by
  have stops (hb : (s.axis a).busy = true) : ((stopHeld a .driverAlarm .abrupt false s).axis a).busy = false := by
    obtain ⟨g, p, hact⟩ := h.active_of_busy hb
    exact stopHeld_abrupt_rests _ _ hact
  unfold alarmChanged
  split
  case h_1 hs | h_2 hs | h_3 hs => exact stops (by simp [Axis.busy, hs])
  case h_4 | h_5 =>
    rw [hold, State.axis_setAxis_self]
    rfl
  case h_6 hs => simp [Axis.busy, hs]

theorem estopAtAxis_rests (h : Book ∅ s) : ((estopAtAxis a s).axis a).busy = false := by
  have stops (hb : (s.axis a).busy = true) : ((stopHeld a .estop .abrupt false s).axis a).busy = false := by
    obtain ⟨g, p, hact⟩ := h.active_of_busy hb
    exact stopHeld_abrupt_rests _ _ hact
  unfold estopAtAxis
  split
  case h_1 hs | h_2 hs | h_3 hs => exact stops (by simp [Axis.busy, hs])
  case h_4 | h_5 => exact leaveByEstop_rests a s
  case h_6 hs => simp [Axis.busy, hs]

theorem takeEstop_book (r : Receiver) (h : Book ∅ s) : Book ∅ (takeEstop r s) := by
  cases r with
  | engine a => exact estopAtAxis_book a h
  | queue => exact h.of_eq rfl rfl
  | outputs => exact h

theorem takeEstop_inputs (r : Receiver) (s : State) : (takeEstop r s).inputs = s.inputs := by
  cases r with
  | engine a => exact (estopAtAxis_frame a s).inputs
  | queue => rfl
  | outputs => rfl

/-- Under ESTOP the axes that a run of receivers stops stay stopped, so that none is busy that is among them. -/
theorem estopInOrder_rests (l : List Receiver) (s : State) (h : Book ∅ s) (he : s.accepted .estop = true)
    (hb : (s.axis b).busy = true → Receiver.engine b ∈ l) : ((estopInOrder l s).axis b).busy = false := by
  induction l generalizing s with
  | nil => exact Bool.eq_false_iff.2 fun hbusy => List.not_mem_nil (hb hbusy)
  | cons r l ih =>
    have he' : (takeEstop r s).accepted .estop = true := by rwa [accepted_of_inputs (takeEstop_inputs r s)]
    refine ih (takeEstop r s) (takeEstop_book r h) he' fun hbusy => ?_
    by_cases hs : (s.axis b).busy = true
    · obtain rfl | hm := List.mem_cons.1 (hb hs)
      · exact absurd hbusy (Bool.eq_false_iff.1 (estopAtAxis_rests h))
      · exact hm
    · have hg := takeEstop_guardedAt r (guardedAt_of_rest (Bool.eq_false_iff.2 hs)) hbusy .estop (by simp [guardInputs])
      exact absurd he' (Bool.eq_false_iff.1 hg)

theorem engine_mem_estopReceivers (hb : (s.axis b).busy = true) : Receiver.engine b ∈ estopReceivers s := by
  have hs : (s.axis b).state ≠ .disabled := fun hs => by simp [Axis.busy, hs] at hb
  simp [estopReceivers, mem_axisIds, hs]

theorem handOn_estop (s : State) : handOn .estop true s =
    estopInOrder (drawOrder (estopReceivers s) s).1 (drawOrder (estopReceivers s) s).2 := rfl

/-- A level that guards an axis has become active: the axis is stopped. -/
theorem handOn_rests {i : InputId} (h : Book ∅ s) (ha : s.accepted i = true)
    (hi : i ∈ guardInputs b (s.axis b).heading) : ((handOn i true s).axis b).busy = false := by
  have hcases : i = .estop ∨ i = .axis b .alarm ∨ ∃ d, (s.axis b).heading = some d ∧ i = .axis b (limitLine d) := by
    simpa [guardInputs, eq_comm] using hi
  obtain rfl | rfl | ⟨d, hd, rfl⟩ := hcases
  · obtain ⟨hp, n, e⟩ := drawOrder_spec (estopReceivers s) s
    have hdrawn : Book ∅ (drawOrder (estopReceivers s) s).2 := by
      rw [e]
      exact h.of_eq rfl rfl
    rw [handOn_estop]
    refine estopInOrder_rests _ _ hdrawn ?_ fun hb => ?_
    · rw [e]
      exact ha
    · rw [e] at hb
      exact hp.mem_iff.2 (engine_mem_estopReceivers hb)
  · exact alarmChanged_rests h
  · cases d with
    | positive => exact limitChanged_rests h hd
    | negative => exact limitChanged_rests h hd

/-! ### The filter (R135, R140) -/

theorem accepted_setInput (s : State) (i j : InputId) (r : InputRecord) :
    (s.setInput i r).accepted j = if j = i then r.accepted else s.accepted j := by
  rw [State.accepted, State.input_setInput]
  split <;> rfl

/-- A write of an input that makes no level active. -/
theorem setInput_guardedAt {i : InputId} {r : InputRecord} (hr : r.accepted = true → s.accepted i = true)
    (h : s.GuardedAt b) : (s.setInput i r).GuardedAt b := by
  refine h.congr (by simp) fun j hj => ?_
  rw [accepted_setInput] at hj
  split at hj
  · next e => exact e ▸ hr hj
  · exact hj

theorem acceptRaw_guardedAt (i : InputId) (hbook : Book ∅ s) (h : s.GuardedAt b) : (acceptRaw i s).GuardedAt b := by
  unfold acceptRaw
  extract_lets r
  have hu : Book ∅ (s.setInput i { r with accepted := r.raw, pending := none }) := setInput_book _ _ hbook
  cases hr : r.raw with
  | false => exact handOn_guardedAt _ _ (setInput_guardedAt (fun hf => by simp at hf) h)
  | true =>
    rw [hr] at hu
    by_cases hi : i ∈ guardInputs b (s.axis b).heading
    · refine guardedAt_of_rest (handOn_rests hu ?_ (by simpa using hi))
      rw [accepted_setInput, if_pos rfl]
    · refine handOn_guardedAt _ _ fun hb j hj => ?_
      rw [State.setInput_axis] at hb hj
      rw [accepted_setInput, if_neg fun e : j = i => hi (e ▸ hj)]
      exact h hb j hj

theorem filterRaw_guardedAt (i : InputId) (hbook : Book ∅ s) (h : s.GuardedAt b) : (filterRaw i s).GuardedAt b := by
  unfold filterRaw
  dsimp only
  split
  · exact setInput_guardedAt id h
  · split
    · exact acceptRaw_guardedAt i hbook h
    · exact setInput_guardedAt id h

theorem pinTakes_guardedAt (i : InputId) (high : Bool) (hbook : Book ∅ s) (h : s.GuardedAt b) :
    (pinTakes i high s).GuardedAt b :=
  filterRaw_guardedAt i (setInput_book _ _ hbook) (setInput_guardedAt id h)

theorem restartFilter_guardedAt (i : InputId) (hbook : Book ∅ s) (h : s.GuardedAt b) :
    (restartFilter i s).GuardedAt b := by
  unfold restartFilter
  dsimp only
  split
  · exact h
  · split
    · exact acceptRaw_guardedAt i hbook h
    · exact setInput_guardedAt id h

theorem reconfigure_guardedAt (i : InputId) (changed high : Bool) (hbook : Book ∅ s) (h : s.GuardedAt b) :
    (reconfigure i changed high s).GuardedAt b := by
  unfold reconfigure
  extract_lets u
  have hu : Book ∅ u ∧ u.GuardedAt b := by
    unfold u
    split
    · exact ⟨restartFilter_book i hbook, restartFilter_guardedAt i hbook h⟩
    · exact ⟨hbook, h⟩
  obtain ⟨hub, hug⟩ := hu
  split
  · exact hug
  · exact filterRaw_guardedAt i (setInput_book _ _ hub) (setInput_guardedAt id hug)

/-- The inputs are treated one by one, in the book and under the guards as they stand. -/
theorem applyInputConfig_guardedAt (c : InputConfig) (hbook : Book ∅ s) (h : s.GuardedAt b) :
    (applyInputConfig c s).GuardedAt b := by
  have keep := applyInputConfig_keeps (P := fun t => Book ∅ t ∧ t.GuardedAt b) c s
    ⟨hbook.of_eq rfl rfl, h.congr rfl fun j hj => by cases j <;> exact hj⟩
    (fun t n ht => ⟨ht.1.of_eq rfl rfl, ht.2.of_eq rfl rfl⟩)
    fun t i changed high ht => ⟨reconfigure_book i changed high ht.1, reconfigure_guardedAt i changed high ht.1 ht.2⟩
  exact keep.2

end Sys2Proof.Machine
end

section
/-! Every step keeps the guards (O60): the orders that act on no axis leave the accepted levels alone, and so does every
other command that hands none on. -/

namespace Sys2Proof.Machine

variable {s t : State} {a b : AxisId}

/-! ### What an order leaves when it accepts (R161) -/

/-- Whatever state an order leaves when it accepts, `P` holds of it. -/
def Verdict.All (P : State → Prop) (v : Verdict) : Prop := ∀ t r, v = .accepted t r → P t

section
variable {P : State → Prop}

theorem Verdict.All.accepted {r : List Byte} (h : P t) : (Verdict.accepted t r).All P := by
  rintro _ _ ⟨⟩
  exact h

theorem Verdict.All.refused (c : OutcomeCode) : (Verdict.refused c).All P := fun _ _ e => nomatch e

theorem Verdict.All.orBadValue {α : Type} {x : Option α} {f : α → Verdict} (h : ∀ y, (f y).All P) :
    (orBadValue x f).All P := by
  cases x with
  | none => exact .refused _
  | some y => exact h y

theorem Verdict.All.noParams {p : List Byte} {v : Verdict} (h : v.All P) : (noParams p v).All P := by
  cases p with
  | nil => exact h
  | cons => exact .refused _

theorem Verdict.All.ite {c : Prop} [Decidable c] {v w : Verdict} (hv : v.All P) (hw : w.All P) :
    (if c then v else w).All P := by
  split
  · exact hv
  · exact hw

end

section
variable {p : List Byte} (h : s.GuardedAt b)
include h

/-! ### Orders that act on axes (R38, R44 to R47, R74, R13, R16) -/

theorem enableAxis_guardedAt (a : AxisId) : (enableAxis a s).GuardedAt b := by
  unfold enableAxis
  split
  · split
    · exact hold_guardedAt a _ h
    · split
      · exact becomeIdle_guardedAt a h
      · exact hold_guardedAt a _ h
  · exact h

theorem disableAxis_guardedAt (a : AxisId) : (disableAxis a s).GuardedAt b := by
  unfold disableAxis
  split
  case h_1 | h_2 => exact h.setAxis_rest rfl
  all_goals exact h

theorem resumeAxis_guardedAt (a : AxisId) : (resumeAxis a s).GuardedAt b := by
  unfold resumeAxis
  split
  · split
    · exact becomeIdle_guardedAt a h
    · exact activateHead_guardedAt a (h.setAxis_busy id (.inr rfl))
  · exact h

theorem stopAxis_guardedAt (mode : StopMode) (flush : Bool) (a : AxisId) : (stopAxis mode flush a s).GuardedAt b := by
  unfold stopAxis
  split
  case h_1 | h_2 | h_3 => exact stopHeld_guardedAt a _ _ _ h
  case h_4 =>
    split
    · exact becomeIdle_guardedAt a (flushQueue_guardedAt a h)
    · exact h
  case h_5 => exact h
  case h_6 =>
    split
    · exact flushQueue_guardedAt a h
    · exact h

theorem flushAxis_guardedAt (a : AxisId) : (flushAxis a s).GuardedAt b := by
  by_cases hs : (s.axis a).state = .held
  · rw [flushAxis_held hs]
    exact becomeIdle_guardedAt a (flushQueue_guardedAt a h)
  · rw [flushAxis_not_held hs]
    exact flushQueue_guardedAt a h

theorem orderSetAxis_guardedAt : (orderSetAxis p s).All (·.GuardedAt b) := by
  unfold orderSetAxis
  split
  · exact .orBadValue fun y => .ite (.refused _) (.ite (.refused _) (.ite (.refused _)
      (.accepted (h.setAxis_busy id (.inr rfl)))))
  · exact .refused _

theorem orderEnable_guardedAt : (orderEnable p s).All (·.GuardedAt b) := by
  unfold orderEnable
  split
  · exact .orBadValue fun m => .ite (.refused _)
      (.accepted (foldl_guardedAt _ (fun _ a h => enableAxis_guardedAt h a) _ s h))
  · exact .refused _

theorem orderDisable_guardedAt : (orderDisable p s).All (·.GuardedAt b) := by
  unfold orderDisable
  split
  · exact .orBadValue fun m => .ite (.refused _)
      (.accepted (foldl_guardedAt _ (fun _ a h => disableAxis_guardedAt h a) _ s h))
  · exact .refused _

theorem orderSetPosition_guardedAt : (orderSetPosition p s).All (·.GuardedAt b) := by
  unfold orderSetPosition
  split
  · exact .orBadValue fun a => .ite (.refused _) (.accepted (h.setAxis_busy id (.inr rfl)))
  · exact .refused _

theorem orderResume_guardedAt : (orderResume p s).All (·.GuardedAt b) := by
  unfold orderResume
  split
  · exact .orBadValue fun m => .ite (.refused _) (.ite (.refused _) (.accepted
      (foldl_guardedAt _ (fun _ a h => resumeAxis_guardedAt h a) _ _ (drawOrder_guardedAt _ h))))
  · exact .refused _

theorem orderStop_guardedAt : (orderStop p s).All (·.GuardedAt b) := by
  unfold orderStop
  split
  · exact .orBadValue fun y => .accepted
      (foldl_guardedAt _ (fun _ a h => stopAxis_guardedAt h _ _ a) _ _ (drawOrder_guardedAt _ h))
  · exact .refused _

theorem orderQueueSegment_guardedAt : (orderQueueSegment p s).All (·.GuardedAt b) := by
  have happ (a : AxisId) (g : Segment) : (appendSegment a g s).GuardedAt b := h.setAxis_busy id (.inr rfl)
  unfold orderQueueSegment
  split
  · refine .orBadValue fun y => .ite (.refused _) (.ite (.refused _) (.accepted ?_))
    split
    · exact activateHead_guardedAt _ (happ _ _)
    · exact happ _ _
  · exact .refused _

theorem orderFlushQueue_guardedAt : (orderFlushQueue p s).All (·.GuardedAt b) := by
  unfold orderFlushQueue
  split
  · exact .orBadValue fun m => .ite (.refused _)
      (.accepted (foldl_guardedAt _ (fun _ a h => flushAxis_guardedAt h a) _ s h))
  · exact .refused _

theorem orderSetInputConfig_guardedAt (hbook : Book ∅ s) : (orderSetInputConfig p s).All (·.GuardedAt b) := by
  unfold orderSetInputConfig
  exact .ite (.orBadValue fun c => .accepted (applyInputConfig_guardedAt c hbook h)) (.refused _)

/-! ### Orders that act on no axis and no accepted level -/

theorem orderSetLink_guardedAt : (orderSetLink p s).All (·.GuardedAt b) := by
  unfold orderSetLink
  split
  · exact .orBadValue fun y => .accepted (h.of_eq rfl rfl)
  · exact .refused _

theorem orderGetLinkStats_guardedAt : (orderGetLinkStats p s).All (·.GuardedAt b) := by
  unfold orderGetLinkStats
  split
  · refine .orBadValue fun y => .accepted ?_
    split <;> exact h.of_eq rfl rfl
  · exact .refused _

theorem orderGetAxis_guardedAt : (orderGetAxis p s).All (·.GuardedAt b) := by
  unfold orderGetAxis
  split
  · exact .orBadValue fun _ => .accepted h
  · exact .refused _

theorem orderGetAxisState_guardedAt : (orderGetAxisState p s).All (·.GuardedAt b) := by
  unfold orderGetAxisState
  split
  · exact .orBadValue fun _ => .accepted h
  · exact .refused _

theorem orderPeekQueue_guardedAt : (orderPeekQueue p s).All (·.GuardedAt b) := by
  unfold orderPeekQueue
  split
  · exact .orBadValue fun _ => .accepted h
  · exact .refused _

theorem orderDefineProfile_guardedAt : (orderDefineProfile p s).All (·.GuardedAt b) := by
  unfold orderDefineProfile
  split
  · exact .ite (.refused _) (.orBadValue fun _ => .ite (.refused _) (.accepted (h.of_eq rfl rfl)))
  · exact .refused _

theorem orderReadProfile_guardedAt : (orderReadProfile p s).All (·.GuardedAt b) := by
  unfold orderReadProfile
  split
  · exact .orBadValue fun _ => .accepted h
  · exact .refused _

theorem orderDropProfile_guardedAt : (orderDropProfile p s).All (·.GuardedAt b) := by
  unfold orderDropProfile
  split
  · exact .orBadValue fun _ => .ite (.refused _) (.accepted (h.of_eq rfl rfl))
  · exact .refused _

theorem orderSetTrigger_guardedAt : (orderSetTrigger p s).All (·.GuardedAt b) := by
  unfold orderSetTrigger
  split
  · exact .orBadValue fun _ => .ite (.refused _) (.accepted (h.of_eq rfl rfl))
  · exact .refused _

theorem changeSlots_guardedAt (f : SlotState → SlotState) (m : SlotMask) : (changeSlots f m s).GuardedAt b := by
  refine foldl_guardedAt _ (fun u i h => ?_) _ s h
  exact h.of_eq rfl rfl

theorem orderArmTriggers_guardedAt : (orderArmTriggers p s).All (·.GuardedAt b) := by
  unfold orderArmTriggers
  split
  · exact .ite (.refused _) (.accepted (changeSlots_guardedAt h _ _))
  · exact .refused _

theorem orderDisarmTriggers_guardedAt : (orderDisarmTriggers p s).All (·.GuardedAt b) := by
  unfold orderDisarmTriggers
  split
  · exact .accepted (changeSlots_guardedAt h _ _)
  · exact .refused _

theorem orderClearTriggers_guardedAt : (orderClearTriggers p s).All (·.GuardedAt b) := by
  unfold orderClearTriggers
  split
  · refine .ite (.refused _) (.accepted (foldl_guardedAt _ (fun u i h => ?_) _ s h))
    exact h.of_eq rfl rfl
  · exact .refused _

theorem orderReadTrigger_guardedAt : (orderReadTrigger p s).All (·.GuardedAt b) := by
  unfold orderReadTrigger
  split
  · exact .orBadValue fun _ => .accepted h
  · exact .refused _

theorem orderSetOutputs_guardedAt : (orderSetOutputs p s).All (·.GuardedAt b) := by
  unfold orderSetOutputs
  split
  · refine .ite (.accepted (foldl_guardedAt _ (fun u n h => ?_) _ s h)) (.refused _)
    exact h.of_eq rfl rfl
  · exact .refused _

theorem orderPulseOutput_guardedAt : (orderPulseOutput p s).All (·.GuardedAt b) := by
  unfold orderPulseOutput
  split
  · exact .orBadValue fun _ => .accepted (h.of_eq rfl rfl)
  · exact .refused _

theorem orderSetOutputConfig_guardedAt : (orderSetOutputConfig p s).All (·.GuardedAt b) := by
  unfold orderSetOutputConfig
  split
  · refine .ite (.accepted (foldl_guardedAt _ (fun u c h => ?_) _ _ (foldl_guardedAt _ (fun u n h => ?_) _ s h)))
      (.refused _)
    · exact h.of_eq rfl rfl
    · exact h.of_eq rfl rfl
  · exact .refused _

theorem orderSetPwm_guardedAt : (orderSetPwm p s).All (·.GuardedAt b) := by
  unfold orderSetPwm
  split
  · exact .orBadValue fun _ => .accepted (h.of_eq rfl rfl)
  · exact .refused _

theorem orderGetPwm_guardedAt : (orderGetPwm p s).All (·.GuardedAt b) := by
  unfold orderGetPwm
  split
  · refine .orBadValue fun c => ?_
    dsimp only
    split
    · exact .accepted h
    · exact .accepted (h.of_eq rfl rfl)
  · exact .refused _

end

/-! ### Frames (R155 to R162) -/

theorem LineOnly.inputs (h : LineOnly s t) : t.inputs = s.inputs := by rw [h.rest]

theorem LineOnly.guardedAt (hl : LineOnly s t) (h : s.GuardedAt b) : t.GuardedAt b :=
  h.of_eq hl.frame.axes hl.inputs

theorem LineOnly.book (hl : LineOnly s t) (h : Book ∅ s) : Book ∅ t := h.of_eq hl.frame.axes hl.frame.joins

theorem fresh_guardedAt (h : FreshBlocks t) (b : AxisId) : t.GuardedAt b :=
  guardedAt_of_rest (by rw [fresh_axis h]; rfl)

/-- An operation that keeps the guards of axis `b` in the book. -/
def KeepsGuard (b : AxisId) (f : State → State) : Prop := ∀ u, Book ∅ u → u.GuardedAt b → (f u).GuardedAt b

theorem KeepsGuard.whenRunning {f : State → State} (hf : KeepsGuard b f) : KeepsGuard b (whenRunning f) := by
  intro u hb h
  unfold Machine.whenRunning
  split
  · exact h
  · exact hf u hb h

theorem KeepsGuard.onFrame {f : State → State} (hf : KeepsGuard b f) : KeepsGuard b (onFrame f) := by
  intro u hb h
  obtain ⟨-, e⟩ | ⟨v, hl, e | e⟩ := onFrame_cases f u
  · rw [e]
    exact fresh_guardedAt (resetNow_fresh _ u) b
  · rw [e]
    exact hl.guardedAt h
  · rw [e]
    exact hf v (hl.book hb) (hl.guardedAt h)

theorem KeepsGuard.of_line {f : State → State} (hf : ∀ u, LineOnly u (f u)) : KeepsGuard b f :=
  fun u _ h => (hf u).guardedAt h

theorem keepsGuard_beginFrame : KeepsGuard b beginFrame := by
  intro u _ h
  obtain ⟨-, e⟩ | hl := beginFrame_cases u
  · rw [e]
    exact fresh_guardedAt (resetNow_fresh _ u) b
  · exact hl.guardedAt h

/-- An order that keeps the guards when it accepts. -/
theorem KeepsGuard.order {code : Byte} {heard restarts : Bool} {f : State → Verdict} {hd : Header}
    (hf : ∀ u, Book ∅ u → u.GuardedAt b → (f u).All (·.GuardedAt b)) :
    KeepsGuard b (receiveOrder code heard restarts f hd) := by
  have heffect : KeepsGuard b (orderEffect code heard restarts f hd) := by
    intro u hb h
    obtain hl | ⟨v, w, r, hv, hw, hl⟩ := orderEffect_cases code heard restarts f hd u
    · exact hl.guardedAt h
    · exact hl.guardedAt (hf v (hv.book hb) (hv.guardedAt h) w r hw)
  exact heffect.onFrame

/-! ### Every command -/

theorem keepsGuard_poll (hd : Header) (ack : Option Byte) : KeepsGuard b (onFrame fun s =>
    match addressee s.line hd.station with
    | .station => answerPoll ack (supervise s)
    | .broadcast => supervise s
    | .other => s) := by
  refine KeepsGuard.onFrame fun u _ h => ?_
  have hs := (supervise_lineOnly u).guardedAt h
  split
  · have hack : (acknowledge ack (supervise u)).GuardedAt b := by
      unfold acknowledge
      split
      · split
        · exact hs.of_eq rfl rfl
        · exact hs
      · exact hs
    exact hack.of_eq rfl rfl
  · exact hs
  · exact h

theorem takeLinkLoss_guardedAt (r : Receiver) (h : s.GuardedAt b) : (takeLinkLoss r s).GuardedAt b := by
  cases r with
  | engine a =>
    simp only [takeLinkLoss, linkLossAtAxis]
    split
    · exact stopHeld_guardedAt a _ _ _ h
    · exact stopHeld_guardedAt a _ _ _ h
    · exact h
  | queue => exact admitReport_guardedAt _ h
  | outputs =>
    refine foldl_guardedAt _ (fun u c h => ?_) _ _ (foldl_guardedAt _ (fun u n h => ?_) _ s h)
    · exact h.of_eq rfl rfl
    · exact h.of_eq rfl rfl

theorem loseLink_guardedAt (h : s.GuardedAt b) : (loseLink s).GuardedAt b :=
  foldl_guardedAt _ (fun _ r => takeLinkLoss_guardedAt r) _ _ (drawOrder_guardedAt _ (h.of_eq rfl rfl))

theorem execRawChange_guardedAt {p : PinId} {high : Bool} (hs : exec (.rawChange p high) s = .next t) (hb : Book ∅ s)
    (h : s.GuardedAt b) : t.GuardedAt b := by
  obtain rfl := Host.Outcome.next.inj hs
  cases p with
  | input i =>
    dsimp only
    split
    · exact h
    · split
      · exact setInput_guardedAt id h
      · exact pinTakes_guardedAt i high hb h
  | addressStrap => exact h.of_eq rfl rfl
  | speedStrap => exact h.of_eq rfl rfl

/-- An event that acts under a condition. -/
theorem KeepsGuard.ite {c : State → Bool} {f : State → State} (hf : KeepsGuard b f) :
    KeepsGuard b (Machine.whenRunning fun s => if c s then f s else s) := by
  refine KeepsGuard.whenRunning fun u hb h => ?_
  split
  · exact hf u hb h
  · exact h

theorem KeepsGuard.next {f : State → State} (hf : KeepsGuard b f)
    (hs : (Host.Outcome.next (f s) : Host.Outcome State Fault Refusal) = .next t) (hb : Book ∅ s) (h : s.GuardedAt b) :
    t.GuardedAt b := Host.Outcome.next.inj hs ▸ hf s hb h

/-- Every command keeps the guards, where a part held in reset has its axes at rest (R166). -/
theorem exec_guardedAt {i : Instr} (hs : exec i s = .next t) (hb : Book ∅ s)
    (hq : s.resetHeld ≠ none → (s.axis b).busy = false) (h : s.GuardedAt b) : t.GuardedAt b := by
  cases i with
  | identify hd p | getStatus hd p | restart hd p | getTime hd p | getIo hd p =>
    exact KeepsGuard.next (KeepsGuard.order fun u _ h => .noParams (.accepted h)) hs hb h
  | discardReports hd p =>
    refine KeepsGuard.next (KeepsGuard.order fun u _ h => .noParams (.accepted ?_)) hs hb h
    exact h.of_eq rfl rfl
  | setLink hd p => exact KeepsGuard.next (KeepsGuard.order fun u _ => orderSetLink_guardedAt) hs hb h
  | getLinkStats hd p => exact KeepsGuard.next (KeepsGuard.order fun u _ => orderGetLinkStats_guardedAt) hs hb h
  | setAxis hd p => exact KeepsGuard.next (KeepsGuard.order fun u _ => orderSetAxis_guardedAt) hs hb h
  | getAxis hd p => exact KeepsGuard.next (KeepsGuard.order fun u _ => orderGetAxis_guardedAt) hs hb h
  | enable hd p => exact KeepsGuard.next (KeepsGuard.order fun u _ => orderEnable_guardedAt) hs hb h
  | disable hd p => exact KeepsGuard.next (KeepsGuard.order fun u _ => orderDisable_guardedAt) hs hb h
  | setPosition hd p => exact KeepsGuard.next (KeepsGuard.order fun u _ => orderSetPosition_guardedAt) hs hb h
  | getAxisState hd p => exact KeepsGuard.next (KeepsGuard.order fun u _ => orderGetAxisState_guardedAt) hs hb h
  | resume hd p => exact KeepsGuard.next (KeepsGuard.order fun u _ => orderResume_guardedAt) hs hb h
  | stop hd p => exact KeepsGuard.next (KeepsGuard.order fun u _ => orderStop_guardedAt) hs hb h
  | queueSegment hd p => exact KeepsGuard.next (KeepsGuard.order fun u _ => orderQueueSegment_guardedAt) hs hb h
  | flushQueue hd p => exact KeepsGuard.next (KeepsGuard.order fun u _ => orderFlushQueue_guardedAt) hs hb h
  | peekQueue hd p => exact KeepsGuard.next (KeepsGuard.order fun u _ => orderPeekQueue_guardedAt) hs hb h
  | defineProfile hd p => exact KeepsGuard.next (KeepsGuard.order fun u _ => orderDefineProfile_guardedAt) hs hb h
  | readProfile hd p => exact KeepsGuard.next (KeepsGuard.order fun u _ => orderReadProfile_guardedAt) hs hb h
  | dropProfile hd p => exact KeepsGuard.next (KeepsGuard.order fun u _ => orderDropProfile_guardedAt) hs hb h
  | setTrigger hd p => exact KeepsGuard.next (KeepsGuard.order fun u _ => orderSetTrigger_guardedAt) hs hb h
  | armTriggers hd p => exact KeepsGuard.next (KeepsGuard.order fun u _ => orderArmTriggers_guardedAt) hs hb h
  | disarmTriggers hd p => exact KeepsGuard.next (KeepsGuard.order fun u _ => orderDisarmTriggers_guardedAt) hs hb h
  | clearTriggers hd p => exact KeepsGuard.next (KeepsGuard.order fun u _ => orderClearTriggers_guardedAt) hs hb h
  | readTrigger hd p => exact KeepsGuard.next (KeepsGuard.order fun u _ => orderReadTrigger_guardedAt) hs hb h
  | setOutputs hd p => exact KeepsGuard.next (KeepsGuard.order fun u _ => orderSetOutputs_guardedAt) hs hb h
  | pulseOutput hd p => exact KeepsGuard.next (KeepsGuard.order fun u _ => orderPulseOutput_guardedAt) hs hb h
  | setOutputConfig hd p => exact KeepsGuard.next (KeepsGuard.order fun u _ => orderSetOutputConfig_guardedAt) hs hb h
  | setPwm hd p => exact KeepsGuard.next (KeepsGuard.order fun u _ => orderSetPwm_guardedAt) hs hb h
  | getPwm hd p => exact KeepsGuard.next (KeepsGuard.order fun u _ => orderGetPwm_guardedAt) hs hb h
  | setInputConfig hd p =>
    exact KeepsGuard.next (KeepsGuard.order fun u hb h => orderSetInputConfig_guardedAt h hb) hs hb h
  | unknownOrder hd p =>
    obtain rfl := Host.Outcome.next.inj hs
    split
    · exact KeepsGuard.order (fun u _ _ => .refused _) s hb h
    · exact h
  | poll hd ack => exact (keepsGuard_poll hd ack).next hs hb h
  | ignoredFrame st c p =>
    refine KeepsGuard.next (KeepsGuard.onFrame (.of_line fun u => ?_)) hs hb h
    split
    · split
      · exact supervise_lineOnly u
      · exact supervise_lineOnly u
      · exact .refl u
    · exact .refl u
  | checkFailure st c p checkA checkB =>
    obtain rfl := Host.Outcome.next.inj hs
    split
    · exact h
    · refine KeepsGuard.onFrame (.of_line fun u => ?_) s hb h
      exact ⟨rfl, rfl⟩
  | escapeError c =>
    obtain rfl := Host.Outcome.next.inj hs
    split
    · exact h
    · exact (abandonFrame_lineOnly _ _ s).guardedAt h
  | oversizeFrame len =>
    obtain rfl := Host.Outcome.next.inj hs
    split
    · exact (abandonFrame_lineOnly _ _ s).guardedAt h
    · exact h
  | openingByteAbandonment | gapAbandonment =>
    obtain rfl := Host.Outcome.next.inj hs
    exact (abandonFrame_lineOnly _ _ s).guardedAt h
  | replyStart =>
    refine KeepsGuard.next (KeepsGuard.whenRunning (.of_line fun u => ?_)) hs hb h
    split
    · exact ⟨rfl, rfl⟩
    · exact .refl u
    · exact .refl u
  | replyEnd =>
    refine KeepsGuard.next (KeepsGuard.whenRunning fun u _ h => ?_) hs hb h
    split
    · split
      · exact fresh_guardedAt (resetNow_fresh _ u) b
      · exact h.of_eq rfl rfl
    · exact h
    · exact h
  | replyAbandoned =>
    refine KeepsGuard.next (KeepsGuard.whenRunning fun u hb h => ?_) hs hb h
    split
    · exact keepsGuard_beginFrame u hb h
    · exact h
  | newFrameBegins =>
    refine KeepsGuard.next (KeepsGuard.whenRunning fun u hb h => ?_) hs hb h
    split
    · exact keepsGuard_beginFrame u hb h
    · exact h
  | linkLossEvent => exact KeepsGuard.next (KeepsGuard.ite fun _ _ => loseLink_guardedAt) hs hb h
  | powerOn high =>
    obtain rfl := Host.Outcome.next.inj hs
    split
    · exact fresh_guardedAt (takeReset_fresh _ s) b
    · exact fresh_guardedAt (resetNow_fresh _ s) b
  | resetPin =>
    exact KeepsGuard.next (KeepsGuard.whenRunning fun u _ _ => fresh_guardedAt (takeReset_fresh _ u) b) hs hb h
  | resetComplete =>
    obtain rfl := Host.Outcome.next.inj hs
    split
    · next c hc => exact guardedAt_of_rest (hq (by simp [hc]))
    · exact h
  | tick =>
    refine KeepsGuard.next (KeepsGuard.whenRunning fun u _ h => ?_) hs hb h
    exact h.of_eq rfl rfl
  | dwellEnd a | tailIntervalExpiry a =>
    exact KeepsGuard.next (KeepsGuard.ite fun _ _ => endSegment_guardedAt a _) hs hb h
  | inputTimeout a => exact KeepsGuard.next (KeepsGuard.ite fun _ _ => endHeld_guardedAt a _) hs hb h
  | filterAcceptance j => exact KeepsGuard.next (KeepsGuard.ite fun _ hb => acceptRaw_guardedAt j hb) hs hb h
  | rawChange p high => exact execRawChange_guardedAt hs hb h
  | stepIssue a => exact KeepsGuard.next (KeepsGuard.whenRunning fun _ _ => issueStep_guardedAt a) hs hb h
  | stepPulseStart a =>
    refine KeepsGuard.next (KeepsGuard.whenRunning fun u _ h => ?_) hs hb h
    obtain ⟨hst, -, -, hp, -⟩ := pulseStart_same (u.axis a)
    exact h.setAxis_busy (by simp [Axis.busy, hst]) (.inr (by simp [Axis.heading, hp]))
  | stepPulseEnd a =>
    refine KeepsGuard.next (KeepsGuard.whenRunning fun u _ h => ?_) hs hb h
    obtain ⟨hst, -, -, hp, -⟩ := pulseEnd_same (u.axis a)
    exact h.setAxis_busy (by simp [Axis.busy, hst]) (.inr (by simp [Axis.heading, hp]))
  | stopWalkEnd a =>
    refine KeepsGuard.next (KeepsGuard.whenRunning fun u _ h => ?_) hs hb h
    split
    · split
      · exact endSegment_guardedAt a _ h
      · exact h
    · exact h
  | pulseEnd n | periodBoundary c | pwmDutyEnd c =>
    refine KeepsGuard.next (KeepsGuard.ite fun u _ h => ?_) hs hb h
    exact h.of_eq rfl rfl

/-- Settles O60: an operation of the engines keeps the guards of each axis; a level that guards an axis stops it as it
becomes active; a part held in reset, whose levels are sampled as the reset completes, has its axes at rest. -/
theorem motionStaysGuarded : Obligations.MotionStaysGuarded := by
  intro s t hs h
  have hb : Book ∅ s := book_iff.2 ⟨hs.segments, hs.axes, hs.joins⟩
  have hg := motionGuarded_iff.1 hs.guarded
  obtain rfl | ⟨c, rest, he⟩ := step_cases h
  · exact hs.guarded
  · refine motionGuarded_iff.2 fun b => exec_guardedAt he (hb.of_eq rfl rfl) (fun hr => ?_) ((hg b).of_eq rfl rfl)
    obtain ⟨⟨haxes, -⟩, -⟩ := hs.quiet hr
    have hrest : s.axis b = .reset := by simp [State.axis, haxes]
    exact hrest ▸ rfl

end Sys2Proof.Machine
end

section
/-! SET_POSITION, SET_AXIS and GET_AXIS (R37 to R39, R47): their verdicts in the words of the statements. -/

namespace Sys2Proof.Machine

variable {s : State} {h : Header}

/-! ### The answer to an order, verdict by verdict (R161) -/

/-- What an executed order leaves in the part that has heard it: the state it accepts with, or nothing but the refusal,
answered. -/
def Verdict.answer (s : State) (h : Header) (code : Byte) : Verdict → State
  | .accepted t result => t.answered h code 0 result
  | .refused c => s.answered h code (outcomeCode c) []

theorem takeOrder_answer {c : OrderCode} (f : State → Verdict) (ht : s.Takes h) (hf : s.Fresh h) (hc : c ≠ .restart) :
    takeOrder c f h s = (f s.heard).answer s.heard h (orderByte c) := by
  rw [takeOrder_fresh f ht hf hc]
  cases f s.heard <;> rfl

theorem Verdict.answer_ite {code : Byte} (c : Prop) [Decidable c] (v w : Verdict) :
    (if c then v else w).answer s h code = if c then v.answer s h code else w.answer s h code := by
  split <;> rfl

/-! ### SET_POSITION (R47) -/

/-- SET_POSITION of an axis of the part. -/
theorem orderSetPosition_extract (a : AxisId) {b : Byte} (hb : readIndex 4 b = some a) (p : Position) (s : State) :
    orderSetPosition [b, p.extractLsb' 0 8, p.extractLsb' 8 8, p.extractLsb' 16 8] s =
      if (s.axis a).state = .running ∨ (s.axis a).state = .waiting ∨ (s.axis a).state = .stopping then .refused .busy
      else .accepted (s.setAxis a { s.axis a with position := p })
        [(s.axis a).position.extractLsb' 0 8, (s.axis a).position.extractLsb' 8 8,
          (s.axis a).position.extractLsb' 16 8] := by
  simp only [orderSetPosition, hb, orBadValue, readPosition_extract, positionBytes_extract, Axis.busy_iff]

/-- Settles O24: the verdict on the number of an axis and the three bytes of a position. -/
theorem setPositionLoadsTheCounter : Obligations.SetPositionLoadsTheCounter := by
  intro h b p s ht hf
  refine congrArg Host.Outcome.next ?_
  rw [takeOrder_answer _ ht hf (by decide)]
  split
  · next hb =>
    have hidx : readIndex 4 b = some ⟨b.toNat, hb⟩ := dif_pos hb
    rw [orderSetPosition_extract _ hidx, Verdict.answer_ite]
    rfl
  · next hb =>
    have hidx : readIndex 4 b = none := dif_neg hb
    rw [orderSetPosition, hidx]
    rfl

/-! ### SET_AXIS and GET_AXIS (R37 to R39) -/

theorem configConflict_iff {c : AxisConfig} :
    configConflict c = true ↔ c.maxRate < c.pullInRate ∨ 1000000 < 2 * c.stepPulseWidth * c.maxRate := by
  simp [configConflict]

/-- The verdict on the eleven bytes of a configuration record, in the order of R37. -/
theorem orderSetAxis_configBytes (a : AxisId) {c : AxisConfig} (hc : c.fitsBytes) (s : State) :
    orderSetAxis (BitVec.ofNat 8 a.val :: configBytes c) s =
      if c.inRange = false then .refused .badValue
      else if c.maxRate < c.pullInRate ∨ 1000000 < 2 * c.stepPulseWidth * c.maxRate then .refused .configConflict
      else if (s.axis a).state = .running ∨ (s.axis a).state = .waiting ∨ (s.axis a).state = .stopping then .refused .busy
      else if ∃ k, c.stopProfile = some k ∧ s.profile k = [] then .refused .profileEmpty
      else .accepted (setConfig a c s) [] := by
  obtain ⟨b0, b1, b2, b3, b4, b5, b6, b7, b8, b9, b10, hbytes, hread⟩ := readConfig_configBytes hc
  rw [hbytes]
  cases hr : c.inRange with
  | false => simp [orderSetAxis, readIndex_ofNat a (by decide), hread, hr, orBadValue]
  | true =>
    simp [orderSetAxis, readIndex_ofNat a (by decide), hread, hr, orBadValue, configConflict_iff, Axis.busy_iff,
      namesEmpty_iff]

theorem execSetAxis_eq (a : AxisId) {c : AxisConfig} (ht : s.Takes h) (hf : s.Fresh h) (hc : c.fitsBytes) :
    exec (.setAxis h (BitVec.ofNat 8 a.val :: configBytes c)) s = .next
      (if c.inRange = false then s.heard.answered h 0x10 3 []
      else if c.maxRate < c.pullInRate ∨ 1000000 < 2 * c.stepPulseWidth * c.maxRate then s.heard.answered h 0x10 12 []
      else if (s.axis a).state = .running ∨ (s.axis a).state = .waiting ∨ (s.axis a).state = .stopping then
        s.heard.answered h 0x10 4 []
      else if ∃ k, c.stopProfile = some k ∧ s.profile k = [] then s.heard.answered h 0x10 6 []
      else (s.heard.setAxis a { s.axis a with config := c }).answered h 0x10 0 []) := by
  refine congrArg Host.Outcome.next ?_
  rw [takeOrder_answer _ ht hf (by decide), orderSetAxis_configBytes a hc]
  simp only [Verdict.answer_ite]
  rfl

theorem length_configBytes (c : AxisConfig) : (configBytes c).length = 11 := rfl

/-- A configuration record is read back from the bytes that GET_AXIS gives (R39). -/
theorem readConfig_getD {c : AxisConfig} (hc : c.fitsBytes) (hr : c.inRange) :
    readConfig ((configBytes c).getD 0 0) ((configBytes c).getD 1 0) ((configBytes c).getD 2 0) ((configBytes c).getD 3 0)
      ((configBytes c).getD 4 0) ((configBytes c).getD 5 0) ((configBytes c).getD 6 0) ((configBytes c).getD 7 0)
      ((configBytes c).getD 8 0) ((configBytes c).getD 9 0) ((configBytes c).getD 10 0) = some c := by
  obtain ⟨b0, b1, b2, b3, b4, b5, b6, b7, b8, b9, b10, hbytes, hread⟩ := readConfig_configBytes hc
  rw [if_pos hr] at hread
  rw [hbytes]
  exact hread

theorem execGetAxis_eq (a : AxisId) (ht : s.Takes h) (hf : s.Fresh h) :
    exec (.getAxis h [BitVec.ofNat 8 a.val]) s = .next (s.heard.answered h 0x11 0 (configBytes (s.axis a).config)) := by
  refine congrArg Host.Outcome.next (takeOrder_accepted ht hf (by decide) ?_)
  simp only [orderGetAxis, readIndex_ofNat a (by decide), orBadValue]
  rfl

/-- Settles O22: the verdict on a record's bytes, and the record read back from them. -/
theorem setAxisAndGetAxisKeepTheConfiguration : Obligations.SetAxisAndGetAxisKeepTheConfiguration :=
  ⟨fun _ a _ _ ht hf hc => execSetAxis_eq a ht hf hc, fun _ a _ ht hf =>
    ⟨_, execGetAxis_eq a ht hf, length_configBytes _, fun hc hr => readConfig_getD hc hr⟩⟩

end Sys2Proof.Machine
end

section
/-! ENABLE, DISABLE and RESUME (R44 to R46): the named axes treated one by one come to one change of the named axes. -/

namespace Sys2Proof.Machine

variable {s : State} {a : AxisId} {h : Header}

/-- Axes treated one by one, each by a change of its own record that is decided from that record and the inputs, come to
one change of the axes in the list. -/
theorem foldl_axes_eq_mapAxes {op : AxisId → State → State} {f : AxisId → Axis → Axis} (l : List AxisId) (hn : l.Nodup)
    (s : State) (hop : ∀ t, ∀ a ∈ l, t.inputs = s.inputs → t.axis a = s.axis a → op a t = t.setAxis a (f a (s.axis a))) :
    l.foldl (fun s a => op a s) s = s.mapAxes fun a x => if a ∈ l then f a x else x := by
  induction l generalizing s with
  | nil => simp [State.mapAxes, State.axis]
  | cons a l ih =>
    obtain ⟨ha, hn⟩ := List.nodup_cons.1 hn
    have other : ∀ b ∈ l, (s.setAxis a (f a (s.axis a))).axis b = s.axis b := fun b hb =>
      State.axis_setAxis_ne s a b _ fun e => ha (e ▸ hb)
    have rest := ih hn (s.setAxis a (f a (s.axis a))) fun t b hb hi hx => by
      rw [other b hb] at hx ⊢
      exact hop t b (List.mem_cons_of_mem a hb) hi hx
    rw [List.foldl_cons, hop s a List.mem_cons_self rfl rfl, rest]
    unfold State.mapAxes
    congr 1
    refine Vector.ext fun b hb => ?_
    simp only [Vector.getElem_ofFn, State.axis_setAxis, List.mem_cons]
    by_cases e : (⟨b, hb⟩ : AxisId) = a
    · simp [e, ha]
    · simp [e]

theorem State.setAxis_self (s : State) (a : AxisId) : s.setAxis a (s.axis a) = s := by
  simp [State.setAxis, State.axis]

theorem alarmActive_of_inputs {t : State} (hi : t.inputs = s.inputs) (a : AxisId) : t.alarmActive a = s.alarmActive a :=
  accepted_of_inputs hi _

/-- A change of the axes in a mask, in the words of its bits. -/
theorem mapAxes_congr {f g : AxisId → Axis → Axis} (hfg : ∀ a, f a (s.axis a) = g a (s.axis a)) :
    s.mapAxes f = s.mapAxes g := by
  unfold State.mapAxes
  simp only [hfg]

/-! ### ENABLE (R44) -/

/-- A DISABLED axis that ENABLE names. -/
def Axis.enabled (x : Axis) (alarm : Bool) : Axis :=
  if alarm then { x with state := .held, heldCause := .stopped .driverAlarm, progress := none }
  else if x.queue = [] then { x with state := .idle, heldCause := .none, progress := none }
  else { x with state := .held, heldCause := .enabled, progress := none }

theorem enableAxis_eq (a : AxisId) (s : State) : enableAxis a s =
    s.setAxis a (if (s.axis a).state = .disabled then (s.axis a).enabled (s.alarmActive a) else s.axis a) := by
  unfold enableAxis Axis.enabled
  split
  · split
    · rfl
    · simp only [List.isEmpty_iff]
      split <;> rfl
  · exact (State.setAxis_self s a).symm

theorem foldl_enableAxis_eq (m : AxisMask) (s : State) : (axesOf m).foldl (fun s a => enableAxis a s) s =
    s.mapAxes fun a x => if m.getLsbD a.val ∧ x.state = .disabled then x.enabled (s.alarmActive a) else x := by
  rw [foldl_axes_eq_mapAxes (f := fun a x => if x.state = .disabled then x.enabled (s.alarmActive a) else x) (axesOf m)
    (nodup_axesOf m) s fun t a _ hi hx => by rw [enableAxis_eq, hx, alarmActive_of_inputs hi]]
  refine mapAxes_congr fun a => ?_
  simp only [mem_axesOf, ite_and]

theorem execEnable_eq (m : AxisMask) (ht : s.Takes h) (hf : s.Fresh h) :
    exec (.enable h [m.setWidth 8]) s = .next
      (if s.estopActive then s.heard.answered h 0x12 10 []
      else
        let t := s.heard.mapAxes fun a x =>
          if m.getLsbD a.val ∧ x.state = .disabled then x.enabled (s.alarmActive a) else x
        t.answered h 0x12 0 (stateCodes t)) := by
  refine congrArg Host.Outcome.next ?_
  rw [takeOrder_answer _ ht hf (by decide)]
  simp only [orderEnable, readAxisMask_setWidth, orBadValue, Verdict.answer_ite, foldl_enableAxis_eq]
  rfl

/-! ### DISABLE (R45) -/

theorem disableAxis_eq (hb : (s.axis a).busy = false) :
    disableAxis a s = s.setAxis a { s.axis a with state := .disabled } := by
  unfold disableAxis
  split
  case h_1 | h_2 => rfl
  case h_3 hs => rw [← hs, State.setAxis_self]
  case h_4 hs | h_5 hs | h_6 hs => simp [Axis.busy, hs] at hb

theorem foldl_disableAxis_eq {m : AxisMask} (hb : ∀ a ∈ axesOf m, (s.axis a).busy = false) :
    (axesOf m).foldl (fun s a => disableAxis a s) s =
      s.mapAxes fun a x => if m.getLsbD a.val then { x with state := .disabled } else x := by
  rw [foldl_axes_eq_mapAxes (f := fun _ x => { x with state := .disabled }) (axesOf m) (nodup_axesOf m) s
    fun t a ha _ hx => by rw [disableAxis_eq (by rw [hx]; exact hb a ha), hx]]
  simp only [mem_axesOf]

theorem execDisable_eq (m : AxisMask) (ht : s.Takes h) (hf : s.Fresh h) :
    exec (.disable h [m.setWidth 8]) s = .next
      (if ∃ a : AxisId, m.getLsbD a.val ∧
          ((s.axis a).state = .running ∨ (s.axis a).state = .waiting ∨ (s.axis a).state = .stopping) then
        s.heard.answered h 0x13 4 []
      else
        let t := s.heard.mapAxes fun a x => if m.getLsbD a.val then { x with state := .disabled } else x
        t.answered h 0x13 0 (stateCodes t)) := by
  have hb := any_busy_iff (s := s.heard) (m := m)
  refine congrArg Host.Outcome.next ?_
  split
  · next hbusy =>
    refine takeOrder_refused (c := .disable) (k := .busy) ht hf (by decide) ?_
    simp only [orderDisable, readAxisMask_setWidth, orBadValue]
    exact if_pos (hb.2 hbusy)
  · next hbusy =>
    have hrest : ∀ a ∈ axesOf m, (s.heard.axis a).busy = false := fun a ha =>
      Bool.eq_false_iff.2 fun hx => mt hb.1 hbusy (List.any_eq_true.2 ⟨a, ha, hx⟩)
    refine takeOrder_accepted ht hf (by decide) ?_
    simp only [orderDisable, readAxisMask_setWidth, orBadValue, ← foldl_disableAxis_eq hrest]
    exact if_neg (mt hb.1 hbusy)

/-- Settles O23: each order comes to one change of the named axes. -/
theorem enableAndDisableActOnNamedAxes : Obligations.EnableAndDisableActOnNamedAxes :=
  ⟨fun _ m _ ht hf => execEnable_eq m ht hf, fun _ m _ ht hf => execDisable_eq m ht hf⟩

/-! ### RESUME (R46) -/

/-- The verdict of a RESUME whose checks pass, with the order drawn (R46). -/
theorem orderResume_setWidth (m : AxisMask) (s : State) : orderResume [m.setWidth 8] s =
    if s.estopActive then .refused .estopActive
    else if (axesOf m).any fun a => (s.axis a).state == .held && s.alarmActive a then .refused .alarmActive
    else .accepted (resumeInOrder (drawOrder (axesOf m) s).1 (drawOrder (axesOf m) s).2)
      (stateCodes (resumeInOrder (drawOrder (axesOf m) s).1 (drawOrder (axesOf m) s).2)) := by
  simp only [orderResume, readAxisMask_setWidth, orBadValue]

theorem any_alarm_iff {m : AxisMask} : ((axesOf m).any fun a => (s.axis a).state == .held && s.alarmActive a) = true ↔
    ∃ a : AxisId, m.getLsbD a.val ∧ (s.axis a).state = .held ∧ s.alarmActive a := by
  simp only [List.any_eq_true, mem_axesOf, Bool.and_eq_true, beq_iff_eq]

theorem execResume_estop (m : AxisMask) (ht : s.Takes h) (hf : s.Fresh h) (he : s.estopActive = true) :
    exec (.resume h [m.setWidth 8]) s = .next (s.heard.answered h 0x16 10 []) := by
  refine congrArg Host.Outcome.next (takeOrder_refused (c := .resume) (k := .estopActive) ht hf (by decide) ?_)
  rw [orderResume_setWidth]
  exact if_pos he

theorem execResume_alarm (m : AxisMask) (ht : s.Takes h) (hf : s.Fresh h) (he : s.estopActive = false)
    (hal : ∃ a : AxisId, m.getLsbD a.val ∧ (s.axis a).state = .held ∧ s.alarmActive a) :
    exec (.resume h [m.setWidth 8]) s = .next (s.heard.answered h 0x16 11 []) := by
  refine congrArg Host.Outcome.next (takeOrder_refused (c := .resume) (k := .alarmActive) ht hf (by decide) ?_)
  have he' : ¬ s.heard.estopActive = true := Bool.eq_false_iff.1 he
  rw [orderResume_setWidth, if_neg he']
  exact if_pos (any_alarm_iff (s := s.heard).2 hal)

/-- A RESUME that its checks let pass. -/
theorem execResume_accepted (m : AxisMask) (ht : s.Takes h) (hf : s.Fresh h) (he : s.estopActive = false)
    (hal : ∀ a : AxisId, m.getLsbD a.val → (s.axis a).state = .held → s.alarmActive a = false) :
    exec (.resume h [m.setWidth 8]) s = .next
      ((resumeInOrder (drawOrder (axesOf m) s.heard).1 (drawOrder (axesOf m) s.heard).2).answered h 0x16 0
        (stateCodes (resumeInOrder (drawOrder (axesOf m) s.heard).1 (drawOrder (axesOf m) s.heard).2))) := by
  refine congrArg Host.Outcome.next (takeOrder_accepted ht hf (by decide) ?_)
  have he' : ¬ s.heard.estopActive = true := Bool.eq_false_iff.1 he
  rw [orderResume_setWidth, if_neg he', if_neg]
  rw [any_alarm_iff (s := s.heard)]
  rintro ⟨a, hm, hs, ha⟩
  exact Bool.eq_false_iff.1 (hal a hm hs) ha

/-- A HELD axis with an empty queue that is resumed. -/
theorem resumeAxis_empty (hq : (s.axis a).state = .held → (s.axis a).queue = []) : resumeAxis a s =
    s.setAxis a (if (s.axis a).state = .held then { s.axis a with state := .idle, heldCause := .none, progress := none }
      else s.axis a) := by
  unfold resumeAxis
  split
  · next hs => rw [if_pos (by simp [hq hs])]; rfl
  · exact (State.setAxis_self s a).symm

/-- A RESUME of axes with empty queues, in whatever order. -/
theorem resumeInOrder_empty {m : AxisMask} {order : List AxisId} (hp : order.Perm (axesOf m))
    (hq : ∀ a : AxisId, m.getLsbD a.val → (s.axis a).state = .held → (s.axis a).queue = []) :
    resumeInOrder order s = s.mapAxes fun a x =>
      if m.getLsbD a.val ∧ x.state = .held then { x with state := .idle, heldCause := .none, progress := none } else x := by
  have hmem : ∀ a, a ∈ order ↔ m.getLsbD a.val = true := fun a => hp.mem_iff.trans mem_axesOf
  rw [resumeInOrder, foldl_axes_eq_mapAxes
    (f := fun _ x => if x.state = .held then { x with state := .idle, heldCause := .none, progress := none } else x) order
    (hp.nodup_iff.2 (nodup_axesOf m)) s fun t a ha _ hx => by
      rw [resumeAxis_empty (by rw [hx]; exact hq a ((hmem a).1 ha)), hx]]
  simp only [hmem, ite_and]

/-- A head that no guard stops and that its checks let wait begins its wait (R48, R53). -/
theorem activateHead_waits {g : Segment} {rest : List Segment} {l : Option Uptime} (hq : (s.axis a).queue = g :: rest)
    (he : s.estopActive = false) (hal : s.alarmActive a = false) (hc : activationCheck a g s = .waits l) :
    activateHead a s = s.setAxis a ((s.axis a).waitBegun l) := by
  rw [← startWait_eq]
  unfold activateHead activate
  simp [hq, he, hal, hc]

/-- A DWELL at the head of an axis that has just been written begins to wait (R53, R91). -/
theorem activateHead_dwell {x : Axis} {g : Segment} {rest : List Segment} {time : Nat} (hq : x.queue = g :: rest)
    (hg : g.work = .dwell time) (he : s.estopActive = false) (hal : s.alarmActive a = false) :
    activateHead a (s.setAxis a x) = s.setAxis a (x.waitBegun (some (s.uptime + BitVec.ofNat 32 time))) := by
  have hcheck : activationCheck a g (s.setAxis a x) = .waits (some (s.uptime + BitVec.ofNat 32 time)) := by
    simp only [activationCheck, hg]
    rfl
  rw [activateHead_waits (s := s.setAxis a x) (by rw [State.axis_setAxis_self]; exact hq) he hal hcheck,
    State.axis_setAxis_self, State.setAxis_setAxis]

/-- A HELD axis with a DWELL at its head that is resumed (R46). -/
theorem resumeAxis_dwell {g : Segment} {rest : List Segment} {time : Nat} (hs : (s.axis a).state = .held)
    (hq : (s.axis a).queue = g :: rest) (hg : g.work = .dwell time) (he : s.estopActive = false)
    (hal : s.alarmActive a = false) :
    resumeAxis a s = s.setAxis a ((s.axis a).waitBegun (some (s.uptime + BitVec.ofNat 32 time))) := by
  rw [resumeAxis, if_pos hs, if_neg (by simp [hq])]
  exact activateHead_dwell (x := { s.axis a with heldCause := .none }) hq hg he hal

/-- Settles O26: the refusals, axes with empty queues in whatever order, and one axis whose head begins to wait. -/
theorem resumeTreatsHeldAxes : Obligations.ResumeTreatsHeldAxes := by
  refine ⟨fun h m s ht hf => ⟨execResume_estop m ht hf, execResume_alarm m ht hf, fun he hrest => ?_⟩, ?_⟩
  · obtain ⟨hp, n, e⟩ := drawOrder_spec (axesOf m) s.heard
    refine ⟨n, ?_⟩
    rw [execResume_accepted m ht hf he fun a hm hs => (hrest a hm hs).1, e,
      resumeInOrder_empty (s := { s.heard with freeCount := n }) hp fun a hm hs => (hrest a hm hs).2]
    rfl
  · intro h a g rest time s ht hf he hal hs hq hg
    have hone : resumeInOrder (drawOrder (axesOf (axisBit a)) s.heard).1 (drawOrder (axesOf (axisBit a)) s.heard).2 =
        s.heard.setAxis a ((s.axis a).waitBegun (some (s.uptime + BitVec.ofNat 32 time))) := by
      rw [axesOf_axisBit]
      exact resumeAxis_dwell (s := s.heard) hs hq hg he hal
    rw [execResume_accepted _ ht hf he fun b hb _ => ?_, hone]
    · rfl
    · rw [axisBit_getLsbD, decide_eq_true_eq] at hb
      exact hb ▸ hal

end Sys2Proof.Machine
end

section
/-! Ends of an active segment that break no meeting (R59 to R61): one that leaves the axis without a segment, one that leads
on to a wait, and the stop by an order; with DWELL_END, the tail interval, the end of a stop walk and STOP (R58, R68 to R70,
R91). -/

namespace Sys2Proof.Machine

variable {s : State} {a : AxisId} {g : Segment} {rest : List Segment} {p : Progress}

/-! ### What every such end comes to (R59) -/

/-- An axis arrived in no record has nothing to withdraw (R103). -/
theorem withdraw_away (h : ∀ r ∈ s.joins, r.here a = false) : withdraw a s = s := by
  have same : (s.joins.filterMap fun r => if r.here a then
      if r.arrived &&& ~~~axisBit a = 0 then none else some { r with arrived := r.arrived &&& ~~~axisBit a }
      else some r) = s.joins := by
    rw [List.filterMap_congr (g := some) (fun r hr => by simp [h r hr])]
    exact List.filterMap_some
  unfold withdraw
  rw [same]

/-- A cause that breaks no meeting leaves the book alone when the axis has arrived nowhere (R59 step 6, R102). -/
theorem notifyJoins_quiet {c : Cause} (hc : c.breaks = false) (h : ∀ r ∈ s.joins, r.here a = false) :
    notifyJoins a c s = s := by
  simp [notifyJoins, withdraw_away h, hc]

/-- The close of an active segment, in the words of its end record (R59, R61). -/
theorem closeSegment_eq (c : Cause) (hq : (s.axis a).queue = g :: rest) (hp : (s.axis a).progress = some p) :
    closeSegment a c s =
      State.setAxis (if g.report || !c.normal then admitReport (.segmentDone a (s.endRecord a g rest p c)) s else s) a
        { s.axis a with
          queue := if p.flushPending then [] else rest, lastEnd := some (s.endRecord a g rest p c), progress := none } := by
  have hf : (s.axis a).flushPending = p.flushPending := by simp [Axis.flushPending, hp]
  have hr : endRecordOf (s.axis a) g rest c = s.endRecord a g rest p c := by
    simp [endRecordOf, State.endRecord, hp, hf]
  simp only [closeSegment, hq, hf, hr]
  split <;> rfl

theorem closeSegment_away (c : Cause) (h : ∀ r ∈ s.joins, r.here a = false) :
    ∀ r ∈ (closeSegment a c s).joins, r.here a = false := by
  rwa [closeSegment_joins]

/-- The stop by an order, of an axis that has arrived at no join (R59, R60, R69, R70). -/
theorem endHeld_stoppedByOrder (hq : (s.axis a).queue = g :: rest) (hp : (s.axis a).progress = some p)
    (h : ∀ r ∈ s.joins, r.here a = false) : endHeld a .stoppedByOrder s = s.heldAfter a g rest p .stoppedByOrder := by
  have hf : (s.axis a).flushPending = p.flushPending := by simp [Axis.flushPending, hp]
  rw [endHeld, notifyJoins_quiet rfl (closeSegment_away _ h), closeSegment_eq _ hq hp, hf, if_pos (by simp [Cause.normal])]
  cases hfl : p.flushPending <;>
    simp [settle, becomeIdle, hold, State.setAxis_setAxis, State.heldAfter, hfl] <;> rfl

/-- A normal end with nothing behind it leaves the axis IDLE (R60). -/
theorem endSegment_last {c : Cause} (hc : c.normal = true) (hq : (s.axis a).queue = [g]) (hp : (s.axis a).progress = some p)
    (hf : p.flushPending = false) (h : ∀ r ∈ s.joins, r.here a = false) :
    endSegment a c s = s.idleAfter a g p c := by
  have hb : c.breaks = false := by simp [Cause.breaks, hc]
  rw [endSegment, if_pos hc, notifyJoins_quiet hb (closeSegment_away _ h), closeSegment_eq _ hq hp]
  simp only [hc, hf, activateHead, activate, State.axis_setAxis_self, becomeIdle, State.setAxis_setAxis, State.idleAfter,
    Bool.not_true, Bool.or_false, Bool.false_eq_true, if_false]

/-- A normal end with a DWELL behind it, which begins to wait (R54, R91). -/
theorem endSegment_dwell {c : Cause} {g2 : Segment} {rest2 : List Segment} {time : Nat} (hc : c.normal = true)
    (hq : (s.axis a).queue = g :: g2 :: rest2) (hp : (s.axis a).progress = some p) (hf : p.flushPending = false)
    (h : ∀ r ∈ s.joins, r.here a = false) (hg : g2.work = .dwell time) (he : s.estopActive = false)
    (hal : s.alarmActive a = false) :
    endSegment a c s =
      State.setAxis (if g.report then admitReport (.segmentDone a (s.endRecord a g (g2 :: rest2) p c)) s else s) a
        (Axis.waitBegun { s.axis a with
          queue := g2 :: rest2, lastEnd := some (s.endRecord a g (g2 :: rest2) p c), progress := none }
          (some (s.uptime + BitVec.ofNat 32 time))) := by
  have hb : c.breaks = false := by simp [Cause.breaks, hc]
  rw [endSegment, if_pos hc, notifyJoins_quiet hb (closeSegment_away _ h), closeSegment_eq _ hq hp]
  simp only [hc, hf, Bool.not_true, Bool.or_false, Bool.false_eq_true, if_false]
  split
  · exact activateHead_dwell (s := admitReport _ s) rfl hg he hal
  · exact activateHead_dwell rfl hg he hal

/-! ### STOP (R69, R70, R73, R74) -/

/-- An immediate stop of a RUNNING axis, or any of a WAITING one, ends the segment with the request's cause. -/
theorem stopEffect_ends {c : Cause} {m : StopMode} (f : Bool) (hq : (s.axis a).queue = g :: rest)
    (hp : (s.axis a).progress = some p)
    (hs : (s.axis a).state = .running ∧ m = .abrupt ∨ (s.axis a).state = .waiting) :
    stopEffect s a c m f = .ends { p with flushPending := p.flushPending || f } c := by
  obtain ⟨hs, rfl⟩ | hs := hs
  · simp only [stopEffect, Axis.active_of_busy (.inl hs) hq hp, hs]
  · simp only [stopEffect, Axis.active_of_busy (.inr (.inl hs)) hq hp, hs]

/-- A STOP that ends the segment of an axis at the order. -/
theorem stopAxis_ends {m : StopMode} (flush : Bool) (hq : (s.axis a).queue = g :: rest) (hp : (s.axis a).progress = some p)
    (hf : p.flushPending = false) (hs : (s.axis a).state = .running ∧ m = .abrupt ∨ (s.axis a).state = .waiting)
    (h : ∀ r ∈ s.joins, r.here a = false) :
    stopAxis m flush a s = s.heldAfter a g rest { p with flushPending := flush } .stoppedByOrder := by
  have heffect := stopEffect_ends (c := .stoppedByOrder) flush hq hp hs
  rw [hf, Bool.false_or] at heffect
  have hstop : stopAxis m flush a s = stopHeld a .stoppedByOrder m flush s := by
    obtain ⟨hs, -⟩ | hs := hs <;> simp only [stopAxis, hs]
  have hend := endHeld_stoppedByOrder (s := s.setAxis a { s.axis a with progress := some { p with flushPending := flush } })
    (by rw [State.axis_setAxis_self]; exact hq) (by rw [State.axis_setAxis_self]) h
  rw [hstop, stopHeld, heffect, applyStop, hend]
  simp only [State.heldAfter, State.endRecord, State.axis_setAxis_self, State.setAxis_setAxis]

/-- Settles O28: the STOP of one axis is one request, which ends the segment at the order. -/
theorem stopEndsTheActiveSegment : Obligations.StopEndsTheActiveSegment := by
  intro h a abrupt flush g rest p s ht hf hq hp hfl hs hj
  have hmode : (s.heard.axis a).state = .running ∧ (if abrupt then StopMode.abrupt else .ramped) = .abrupt ∨
      (s.heard.axis a).state = .waiting := hs.imp_left fun ⟨hr, hab⟩ => ⟨hr, by rw [hab, if_pos rfl]⟩
  have hstop := stopAxis_ends (s := s.heard) flush hq hp hfl hmode hj
  rw [execStop_one abrupt flush ht hf, hstop]
  cases flush <;> rfl

/-! ### DWELL_END (R91) -/

theorem exec_running {f : State → State} (hr : s.resetHeld = none) : whenRunning f s = f s := by
  simp [whenRunning, hr]

theorem waitDue_dwell {time : Nat} (hs : (s.axis a).state = .waiting) (hq : (s.axis a).queue = g :: rest)
    (hp : (s.axis a).progress = some p) (hg : g.work = .dwell time) :
    waitDue .dwell a s = decide (p.deadline = some s.uptime) := by
  simp only [waitDue, Axis.active_of_busy (.inr (.inl hs)) hq hp, hs, hg, Work.kind, State.due]
  exact beq_eq_decide _ _

/-- Settles O43: the end of a DWELL that is due, with nothing or a further DWELL behind it. -/
theorem dwellEndsAtItsDeadline : Obligations.DwellEndsAtItsDeadline := by
  intro a g rest p time s hr hs hq hp hg hf hj e reported
  have he (rest : List Segment) : s.endRecord a g rest p .complete = e := by
    simp [State.endRecord, e, hg, hf, Work.kind]
  have hexec : exec (.dwellEnd a) s = .next (if p.deadline = some s.uptime then endSegment a .complete s else s) := by
    refine congrArg Host.Outcome.next ?_
    rw [exec_running hr, waitDue_dwell hs hq hp hg]
    simp only [decide_eq_true_eq]
  refine ⟨fun hd => ?_, fun hd hnil => ?_, fun g2 rest2 time2 hd hrest hg2 hes hal => ?_⟩
  · rw [hexec, if_neg hd]
  · subst hnil
    rw [hexec, if_pos hd, endSegment_last rfl hq hp hf hj, State.idleAfter, he]
  · subst hrest
    rw [hexec, if_pos hd, endSegment_dwell rfl hq hp hf hj hg2 hes hal, he]
    rfl

/-! ### The tail interval and the end of a stop walk (R58, R68) -/

theorem inTail_running (hs : (s.axis a).state = .running) (hq : (s.axis a).queue = g :: rest)
    (hp : (s.axis a).progress = some p) : inTail .running a s = p.plan.advance.isNone := by
  have hact := Axis.active_of_busy (.inl hs) hq hp
  simp only [inTail, Axis.interval, hact, hs, nextStep]
  cases p.plan.advance <;> rfl

theorem inTail_stopping {w : Track} (hs : (s.axis a).state = .stopping) (hq : (s.axis a).queue = g :: rest)
    (hp : (s.axis a).progress = some p) (hw : p.walk = some w) : inTail .stopping a s = w.advance.isNone := by
  have hact := Axis.active_of_busy (.inr (.inr hs)) hq hp
  simp only [inTail, Axis.interval, hact, hs, nextStep, hw]
  cases w.advance <;> rfl

/-- The end of a stop walk with its recorded cause (R68). -/
theorem execStopWalkEnd_eq {w : Track} {c : Cause} (hr : s.resetHeld = none) (hs : (s.axis a).state = .stopping)
    (hq : (s.axis a).queue = g :: rest) (hp : (s.axis a).progress = some p) (hw : p.walk = some w)
    (hn : w.advance = none) (hc : p.recordedCause = some c) : exec (.stopWalkEnd a) s = .next (endSegment a c s) := by
  refine congrArg Host.Outcome.next ?_
  have hrec : recordedCauseOf (s.axis a) = some c := by simp only [recordedCauseOf, hp, hc]
  rw [exec_running hr, if_pos (by rw [inTail_stopping hs hq hp hw, hn]; rfl), hrec]

/-- Settles O52: each command ends the segment where no step is left, as the recorded cause or COMPLETE says. -/
theorem segmentsEndAfterTheirLastStep : Obligations.SegmentsEndAfterTheirLastStep := by
  intro a g rest p s hr hq hp hj e
  refine ⟨fun hs hn hf hnil => ?_, fun hs hn => ?_, fun w hs hw => ⟨fun hn => ?_, fun hn hc => ?_, fun hn hc hf hnil => ?_⟩⟩
  · subst hnil
    refine congrArg Host.Outcome.next ?_
    rw [exec_running hr, if_pos (by rw [inTail_running hs hq hp, hn]; rfl), endSegment_last rfl hq hp hf hj]
    rfl
  · refine congrArg Host.Outcome.next ?_
    rw [exec_running hr, if_neg (by rw [inTail_running hs hq hp]; simpa using hn)]
  · refine congrArg Host.Outcome.next ?_
    rw [exec_running hr, if_neg (by rw [inTail_stopping hs hq hp hw]; simpa using hn)]
  · rw [execStopWalkEnd_eq hr hs hq hp hw hn hc]
    refine congrArg Host.Outcome.next ?_
    rw [endSegment, if_neg (by simp [Cause.normal]), endHeld_stoppedByOrder hq hp hj]
    cases hf : p.flushPending <;> simp [State.heldAfter, hf] <;> rfl
  · subst hnil
    rw [execStopWalkEnd_eq hr hs hq hp hw hn hc, endSegment_last rfl hq hp hf hj]
    rfl

end Sys2Proof.Machine
end

section
/-! GET_AXIS_STATE (R62, R169) and the STEP pulses (R63). -/

namespace Sys2Proof.Machine

variable {s : State} {a : AxisId} {h : Header}

/-! ### GET_AXIS_STATE -/

/-- A presence byte of three bits has no other. -/
theorem getLsbD_bitsByte_three (b0 b1 b2 : Bool) :
    (bitsByte [b0, b1, b2]).getLsbD 0 = b0 ∧ (bitsByte [b0, b1, b2]).getLsbD 1 = b1 ∧
      (bitsByte [b0, b1, b2]).getLsbD 2 = b2 ∧ ∀ n, 3 ≤ n → (bitsByte [b0, b1, b2]).getLsbD n = false := by
  have hlow : ∀ c0 c1 c2 : Bool, (bitsByte [c0, c1, c2]).getLsbD 0 = c0 ∧ (bitsByte [c0, c1, c2]).getLsbD 1 = c1 ∧
      (bitsByte [c0, c1, c2]).getLsbD 2 = c2 ∧ ∀ n : Fin 8, 3 ≤ n.val → (bitsByte [c0, c1, c2]).getLsbD n.val = false := by
    decide
  obtain ⟨h0, h1, h2, hn⟩ := hlow b0 b1 b2
  refine ⟨h0, h1, h2, fun n h3 => ?_⟩
  by_cases h8 : n < 8
  · exact hn ⟨n, h8⟩ h3
  · exact BitVec.getLsbD_of_ge _ _ (Nat.le_of_not_lt h8)

/-- The 28 bytes of an axis, with what an absent field leaves (R62, R169). -/
theorem axisStateBytes_eq (x : Axis) : ∃ tag kind taken last,
    axisStateBytes x =
      [axisStateCode x.state, phaseCode x.phase, heldCauseCode x.heldCause] ++ positionBytes x.position ++
        leBytes 2 x.currentRate ++ [bitsByte [x.active.isSome, x.stepsRemaining.isSome, x.lastEnd.isSome], tag, kind] ++
        leBytes 3 taken ++ leBytes 3 (x.stepsRemaining.getD 0) ++ [BitVec.ofNat 8 x.queue.length] ++ last ∧
      last.length = 10 ∧
      (match x.active with
        | some (g, p) => tag = g.tag ∧ kind = kindCode g.work.kind ∧ taken = p.stepsTaken
        | none => tag = 0 ∧ kind = 0 ∧ taken = 0) ∧
      match x.lastEnd with
        | some e => last = [e.tag, kindCode e.kind, causeCode e.cause] ++ leBytes 3 e.stepsTaken ++
            positionBytes e.endPosition ++ [BitVec.ofNat 8 e.discarded]
        | none => last = List.replicate 10 0 := by
  unfold axisStateBytes
  cases x.active with
  | none =>
    cases x.lastEnd with
    | none => exact ⟨0, 0, 0, _, by simp, rfl, ⟨rfl, rfl, rfl⟩, rfl⟩
    | some e => exact ⟨0, 0, 0, endRecordBytes e, by simp, rfl, ⟨rfl, rfl, rfl⟩, rfl⟩
  | some v =>
    obtain ⟨g, p⟩ := v
    cases x.lastEnd with
    | none => exact ⟨g.tag, kindCode g.work.kind, p.stepsTaken, _, by simp, rfl, ⟨rfl, rfl, rfl⟩, rfl⟩
    | some e => exact ⟨g.tag, kindCode g.work.kind, p.stepsTaken, endRecordBytes e, by simp, rfl, ⟨rfl, rfl, rfl⟩, rfl⟩

/-- The steps remaining of an axis in motion: the count less the steps taken, where the segment is counted (R62). -/
theorem stepsRemaining_active {x : Axis} {g : Segment} {p : Progress} (hx : x.fits = true) (hact : x.active = some (g, p)) :
    x.stepsRemaining = if (x.state = .running ∨ x.state = .stopping) ∧ g.work.counted then
      p.count.map fun n => n - p.stepsTaken else none := by
  have uncounted (hm : p.FitsMotion g.work) (hc : ¬ g.work.counted = true) : p.count = none := by
    have := hm.count
    simp_all
  obtain ⟨-, -, hp⟩ := Axis.active_eq_some hact
  obtain ⟨-, ⟨hs, hf⟩ | ⟨hs, -⟩ | ⟨hs, hf⟩⟩ := Axis.fits_active hx hact
  · obtain ⟨hm, -⟩ := Progress.fitsRunning_iff.1 hf
    by_cases hc : g.work.counted = true
    · simp [Axis.stepsRemaining, hs, hp, hc]
    · simp [Axis.stepsRemaining, hs, hp, hc, uncounted hm hc]
  · simp [Axis.stepsRemaining, hs]
  · obtain ⟨hm, -⟩ := Progress.fitsStopping_iff.1 hf
    by_cases hc : g.work.counted = true
    · simp [Axis.stepsRemaining, hs, hp, hc]
    · simp [Axis.stepsRemaining, hs, hp, hc, uncounted hm hc]

/-- An axis of the table without an active segment has no steps remaining (R40, R62). -/
theorem stepsRemaining_of_rest {x : Axis} (hx : x.fits = true) (hact : x.active = none) : x.stepsRemaining = none := by
  unfold Axis.fits at hx
  split at hx <;> simp_all [Axis.active, Axis.stepsRemaining]

theorem execGetAxisState_eq (a : AxisId) (ht : s.Takes h) (hf : s.Fresh h) :
    exec (.getAxisState h [BitVec.ofNat 8 a.val]) s = .next (s.heard.answered h 0x15 0 (axisStateBytes (s.axis a))) := by
  refine congrArg Host.Outcome.next (takeOrder_accepted ht hf (by decide) ?_)
  simp only [orderGetAxisState, readIndex_ofNat a (by decide), orBadValue]
  rfl

/-- Settles O25: the bytes of the axis, their presence bits, and the steps remaining of an axis in its row. -/
theorem getAxisStateShowsTheAxis : Obligations.GetAxisStateShowsTheAxis := by
  intro h a s ht hf x left
  obtain ⟨tag, kind, taken, last, hbytes, hlen, hactive, hlast⟩ := axisStateBytes_eq x
  obtain ⟨h0, h1, h2, hn⟩ := getLsbD_bitsByte_three x.active.isSome x.stepsRemaining.isSome x.lastEnd.isSome
  have hleft (hx : x.fits) : x.stepsRemaining = left := by
    unfold left
    cases hact : x.active with
    | none => exact stepsRemaining_of_rest hx hact
    | some v => exact stepsRemaining_active hx hact
  refine ⟨_, tag, kind, taken, x.stepsRemaining.getD 0, last, ?_, hlen, ⟨h0, hactive⟩, fun hx => ?_, ⟨h2, hlast⟩, hn⟩
  · rw [execGetAxisState_eq a ht hf, hbytes]
  · rw [h1, hleft hx]
    exact ⟨rfl, rfl⟩

/-! ### STEP pulses (R63) -/

theorem pulseStart_eq (x : Axis) : x.pulseStart =
    if x.stepActive = false ∧ 0 < x.pulsesWaiting then
      { x with stepActive := true, pulsesWaiting := x.pulsesWaiting - 1 } else x := by
  simp [Axis.pulseStart]

theorem pulseEnd_inactive {x : Axis} (hx : x.stepActive = false) : x.pulseEnd = x := by
  simp [Axis.pulseEnd, hx]

theorem pulseEnd_steady {x : Axis} (hx : x.stepActive = true) (hd : x.dirChanges = []) :
    x.pulseEnd = { x with stepActive := false } := by
  obtain ⟨config, state, held, position, progress, lastEnd, queue, logicalDir, shownDir, dirChanges, stepActive, n⟩ := x
  subst hx hd
  rfl

/-- One level that waits is taken when it waits for no further pulse end. -/
theorem pulseEnd_turning {x : Axis} {n : Nat} {d : Direction} (hx : x.stepActive = true) (hd : x.dirChanges = [(n, d)]) :
    x.pulseEnd = if n ≤ 1 then { x with stepActive := false, shownDir := d, dirChanges := [] }
      else { x with stepActive := false, dirChanges := [(n - 1, d)] } := by
  by_cases hn : n ≤ 1
  · simp [Axis.pulseEnd, dirAfterPulse, hx, hd, hn, Nat.not_lt.2 hn]
  · simp [Axis.pulseEnd, dirAfterPulse, hx, hd, hn, Nat.lt_of_not_le hn]

/-- Settles O51: each event is one write of the axis. -/
theorem stepPulsesBeginAndEnd : Obligations.StepPulsesBeginAndEnd := by
  intro a s hr
  have hend : exec (.stepPulseEnd a) s = .next (s.setAxis a (s.axis a).pulseEnd) :=
    congrArg Host.Outcome.next (exec_running hr)
  refine ⟨?_, fun hx => ?_, fun hx hd => ?_, fun n d hx hd => ?_⟩
  · refine congrArg Host.Outcome.next ?_
    rw [exec_running hr, pulseStart_eq]
    split
    · rfl
    · exact State.setAxis_self s a
  · rw [hend, pulseEnd_inactive hx, State.setAxis_self]
  · rw [hend, pulseEnd_steady hx hd]
  · rw [hend, pulseEnd_turning hx hd]

end Sys2Proof.Machine
end

section
/-! A step that meets no SLOW zone and no search limit (R55, R56): what it issues, the slots it fires (R116), and, where
none does, that it changes its axis alone. -/

namespace Sys2Proof.Machine

variable {s : State} {a : AxisId} {d : Direction} {here : Position} {g : Segment} {p q : Progress} {l : Leg}

/-! ### The firing set (R116) -/

theorem Qualifier.matches_iff {r : Qualifier} :
    r.matches d = true ↔ r = .either ∨ r = (if d = .positive then .positive else .negative) := by
  cases r <;> cases d <;> decide

theorem TriggerSlot.firesAt_iff {t : TriggerSlot} : t.firesAt a d here = true ↔
    ∃ f, t.fields = some f ∧ t.state = .armed ∧ f.axis = a ∧ f.position = here ∧
      (f.qualifier = .either ∨ f.qualifier = (if d = .positive then .positive else .negative)) := by
  unfold TriggerSlot.firesAt
  cases t.fields with
  | none => simp
  | some f => simp [Qualifier.matches_iff, and_assoc]

theorem mem_firingSet {i : Fin 24} : i ∈ firingSet a d here s ↔ (s.trigger i).firesAt a d here = true := by
  simp [firingSet, slotIds]

/-- The firing set is in ascending slot order (R117). -/
theorem firingSet_pairwise (a : AxisId) (d : Direction) (here : Position) (s : State) :
    (firingSet a d here s).Pairwise (· < ·) :=
  (List.sortedLT_finRange 24).pairwise.filter _

/-! ### What is issued (R56) -/

theorem stepFrom_eq (here : Position) (d : Direction) :
    stepFrom here d = here + (if d = .positive then 1 else -1) := by
  cases d
  · rfl
  · exact BitVec.sub_eq_add_neg here 1

/-- A step's place in the plan or walk is all of the progress record that the choice of its leg changes. -/
theorem nextStep_keeps {st : AxisState} (h : nextStep st p = some (l, q)) :
    q.direction = p.direction ∧ q.stepsTaken = p.stepsTaken := by
  obtain ⟨-, t, -, rfl⟩ | ⟨-, w, t, -, -, rfl⟩ := nextStep_cases h <;> exact ⟨rfl, rfl⟩

/-- The step of an axis in motion is issued, and what follows it is decided at once. -/
theorem issueStep_eq (ha : (s.axis a).active = some (g, p)) (hn : nextStep (s.axis a).state p = some (l, q))
    (hd : p.direction = some d) : issueStep a s = afterStep a d (issue a l q s) := by
  have hh : p.heading = d := by rw [Progress.heading, hd, Option.getD_some]
  simp only [issueStep, ha, hn, hh]

/-- The axis after a step's issue. -/
theorem axis_issue (hd : q.direction = some d) : (issue a l q s).axis a = { s.axis a with
    position := (s.axis a).position + (if d = .positive then 1 else -1)
    pulsesWaiting := (s.axis a).pulsesWaiting + 1
    progress := some { q with stepsTaken := addSaturating 8388607 q.stepsTaken, rate := l.rate } } := by
  have hh : q.heading = d := by rw [Progress.heading, hd, Option.getD_some]
  rw [issue, State.axis_setAxis_self, hh, stepFrom_eq]

/-- A step short of the longest count is counted. -/
theorem issue_eq (hn : nextStep (s.axis a).state p = some (l, q)) (hd : p.direction = some d)
    (ht : p.stepsTaken < 8388607) : issue a l q s = s.setAxis a { s.axis a with
      position := (s.axis a).position + (if d = .positive then 1 else -1)
      pulsesWaiting := (s.axis a).pulsesWaiting + 1
      progress := some { q with stepsTaken := p.stepsTaken + 1, rate := l.rate } } := by
  obtain ⟨hdir, htaken⟩ := nextStep_keeps hn
  have hx := axis_issue (s := s) (a := a) (l := l) (hdir.trans hd)
  rw [issue, State.axis_setAxis_self] at hx
  rw [issue, hx, htaken, addSaturating_of_lt ht]

/-- A step that makes an axis that is on no HOME move on meets no search limit (R90). -/
theorem atSearchLimit_issue (ha : (s.axis a).active = some (g, p)) (hg : g.work.isHome = false) :
    atSearchLimit a (issue a l q s) = false := by
  obtain ⟨hs, ⟨rest, hq⟩, -⟩ := Axis.active_eq_some ha
  have hact : ((issue a l q s).axis a).active =
      some (g, { q with stepsTaken := addSaturating 8388607 q.stepsTaken, rate := l.rate }) := by
    rw [issue, State.axis_setAxis_self]
    exact Axis.active_of_busy hs hq rfl
  cases hw : g.work <;> simp_all [atSearchLimit, Work.isHome]

/-- Where SLOW is inactive and no HOME is active, a step is followed by its triggers alone. -/
theorem issueStep_fires (ha : (s.axis a).active = some (g, p)) (hn : nextStep (s.axis a).state p = some (l, q))
    (hd : p.direction = some d) (hslow : s.accepted (.axis a .slow) = false) (hg : g.work.isHome = false) :
    issueStep a s = fireAll ((s.axis a).position + (if d = .positive then 1 else -1))
      (firingSet a d ((s.axis a).position + (if d = .positive then 1 else -1)) s) (issue a l q s) := by
  have hposition : ((issue a l q s).axis a).position = (s.axis a).position + (if d = .positive then 1 else -1) := by
    rw [axis_issue ((nextStep_keeps hn).1.trans hd)]
  have hzone : inSlowZone a (issue a l q s) = false := inSlowZone_eq_false hslow
  rw [issueStep_eq ha hn hd]
  simp only [afterStep, hzone, hposition, atSearchLimit_issue ha hg, limitRequest, Bool.false_eq_true, if_false]
  rfl

/-- Settles O50: no armed trigger watches the new position, so the firing set is empty. -/
theorem plainStepsChangeTheirAxisAlone : Obligations.PlainStepsChangeTheirAxisAlone := by
  intro a g p q l d s hr ha hn hd ht hslow hg here hquiet
  have hset : firingSet a d here s = [] := by
    refine List.eq_nil_iff_forall_not_mem.2 fun i hi => ?_
    obtain ⟨f, hf, harmed, haxis, hhere, -⟩ := TriggerSlot.firesAt_iff.1 (mem_firingSet.1 hi)
    exact hquiet i f hf harmed haxis hhere
  refine congrArg Host.Outcome.next ?_
  rw [exec_running hr, issueStep_fires ha hn hd hslow hg, hset, issue_eq hn hd ht]
  rfl

end Sys2Proof.Machine
end

section
/-! What the firings of a step do to the trigger table (R117, R121), what a step with its consequences leaves alone, and what
the action of one firing comes to (R118 to R122). -/

namespace Sys2Proof.Machine

variable {s : State} {a : AxisId} {d : Direction} {here : Position} {g : Segment} {p q : Progress} {l : Leg}

/-! ### One firing and the trigger table (R117, R121) -/

/-- A slot that an ARM_SLOT action names, afterwards (R121). -/
def TriggerSlot.rearmed (t : TriggerSlot) : TriggerSlot :=
  if t.state = .disarmed ∨ t.state = .spent then { t with state := .armed } else t

/-- The firing of slot `j` arms slot `i` (R121). -/
def State.arms (s : State) (j i : Fin 24) : Bool := ((s.trigger j).fields.map TriggerFields.action) == some (.armSlot i)

theorem State.arms_iff {i j : Fin 24} :
    s.arms j i = true ↔ ∃ f, (s.trigger j).fields = some f ∧ f.action = .armSlot i := by
  simp [State.arms]

@[simp] theorem TriggerSlot.rearmed_rearmed (t : TriggerSlot) : t.rearmed.rearmed = t.rearmed := by
  unfold TriggerSlot.rearmed
  split <;> simp_all

theorem TriggerSlot.rearmed_fireCount (t : TriggerSlot) : t.rearmed.fireCount = t.fireCount := by
  unfold TriggerSlot.rearmed
  split <;> rfl

theorem TriggerSlot.rearmed_of_keeps {t : TriggerSlot} (h : t.state = .free ∨ t.state = .armed) : t.rearmed = t := by
  obtain h | h := h <;> simp [TriggerSlot.rearmed, h]

theorem TriggerSlot.rearmed_state {t : TriggerSlot} (h : t.state ≠ .free) : t.rearmed.state = .armed := by
  unfold TriggerSlot.rearmed
  cases hs : t.state <;> simp_all

theorem armSlot_eq (m : Fin 24) (s : State) : armSlot m s =
    if (s.trigger m).state = .disarmed ∨ (s.trigger m).state = .spent then
      s.setTrigger m { s.trigger m with state := .armed } else s := by
  unfold armSlot
  cases (s.trigger m).state <;> simp

theorem trigger_armSlot (m i : Fin 24) (s : State) :
    (armSlot m s).trigger i = if m = i then (s.trigger i).rearmed else s.trigger i := by
  rw [armSlot_eq, TriggerSlot.rearmed]
  split <;> rename_i h
  · rw [State.trigger_setTrigger]
    by_cases hm : i = m
    · subst hm; simp [h]
    · simp [hm, Ne.symm hm]
  · by_cases hm : m = i
    · subst hm; simp [h]
    · simp [hm]

theorem trigger_of_triggers {t : State} (h : t.triggers = s.triggers) (i : Fin 24) : t.trigger i = s.trigger i := by
  rw [State.trigger, State.trigger, h]

theorem trigger_applyAction (act : Action) (i : Fin 24) (s : State) :
    (applyAction act s).trigger i = if act = .armSlot i then (s.trigger i).rearmed else s.trigger i := by
  cases act with
  | armSlot m => simp [applyAction, trigger_armSlot]
  | stopAxis k m =>
    rw [if_neg (by simp)]
    exact trigger_of_triggers (stopHeld_frame k .triggerStop m false s).triggers i
  | outSet n => rfl
  | outClear n => rfl
  | outPulse n w => rfl
  | pwmDuty c v => rfl
  | note => rfl

/-- A slot has fired: its count and state are written and its report is admitted (R117 steps 1 to 3). -/
def State.slotFired (s : State) (here : Position) (i : Fin 24) (f : TriggerFields) : State :=
  let u := s.setTrigger i ((s.trigger i).fired f)
  if f.report then admitReport (.triggerFired i f.axis here ((s.trigger i).fired f).fireCount) u else u

/-- A firing, and then its action (R117). -/
theorem fireSlot_eq {i : Fin 24} {f : TriggerFields} (hf : (s.trigger i).fields = some f) :
    fireSlot here i s = applyAction f.action (s.slotFired here i f) := by
  simp only [fireSlot, hf]
  rfl

theorem trigger_slotFired (here : Position) (i j : Fin 24) (f : TriggerFields) (s : State) :
    (s.slotFired here j f).trigger i = if i = j then (s.trigger j).fired f else s.trigger i := by
  rw [← State.trigger_setTrigger, State.slotFired]
  split <;> rfl

theorem trigger_fireSlot {i j : Fin 24} {f : TriggerFields} (hf : (s.trigger j).fields = some f) :
    (fireSlot here j s).trigger i =
      let t := if i = j then (s.trigger j).fired f else s.trigger i
      if s.arms j i then t.rearmed else t := by
  have harms : s.arms j i = true ↔ f.action = .armSlot i := by simp [State.arms, hf]
  simp only [fireSlot_eq hf, trigger_applyAction, trigger_slotFired, harms]

theorem trigger_fireSlot_ne {i j : Fin 24} (h : i ≠ j) :
    (fireSlot here j s).trigger i = if s.arms j i then (s.trigger i).rearmed else s.trigger i := by
  cases hf : (s.trigger j).fields with
  | none => simp [fireSlot, hf, State.arms]
  | some f => simp [trigger_fireSlot hf, h]

/-- Which slot arms which is decided by the fields, which no firing changes. -/
theorem arms_fireSlot (here : Position) (k : Fin 24) (s : State) (j i : Fin 24) :
    (fireSlot here k s).arms j i = s.arms j i := by
  rw [State.arms, State.arms, (fireSlot_frame here k s).fields j]

/-- A slot outside a firing set is armed by the slots of it that name it. -/
theorem trigger_fireAll_of_notMem {i : Fin 24} {set : List (Fin 24)} (h : i ∉ set) :
    (fireAll here set s).trigger i =
      if set.any (fun j => s.arms j i) then (s.trigger i).rearmed else s.trigger i := by
  induction set generalizing s with
  | nil => rfl
  | cons j set ih =>
    obtain ⟨hne, hset⟩ := not_or.1 (mt List.mem_cons.2 h)
    have ih := ih (s := fireSlot here j s) hset
    simp only [arms_fireSlot, trigger_fireSlot_ne hne] at ih
    rw [fireAll, List.foldl_cons, List.any_cons]
    refine ih.trans ?_
    cases s.arms j i <;> cases set.any (fun j => s.arms j i) <;> simp

/-- An armed slot of an ascending firing set fires once, and is armed again by its own action or that of a higher slot. -/
theorem trigger_fireAll_of_mem {i : Fin 24} {set : List (Fin 24)} {f : TriggerFields} (hset : set.Pairwise (· < ·))
    (h : i ∈ set) (hf : (s.trigger i).fields = some f) (ha : (s.trigger i).state = .armed) :
    (fireAll here set s).trigger i =
      if set.any (fun j => decide (i ≤ j) && s.arms j i) then ((s.trigger i).fired f).rearmed else (s.trigger i).fired f := by
  induction set generalizing s with
  | nil => cases h
  | cons k set ih =>
    obtain ⟨hk, hset⟩ := List.pairwise_cons.1 hset
    rw [fireAll, List.foldl_cons, List.any_cons]
    by_cases hik : i = k
    · subst hik
      have hnot : i ∉ set := fun hi => lt_irrefl i (hk i hi)
      have hany : set.any (fun j => decide (i ≤ j) && s.arms j i) = set.any fun j => s.arms j i := by
        rw [Bool.eq_iff_iff, List.any_eq_true, List.any_eq_true]
        exact exists_congr fun j => and_congr_right fun hj => by simp [(hk j hj).le]
      have hrest := trigger_fireAll_of_notMem (s := fireSlot here i s) (here := here) hnot
      simp only [arms_fireSlot, trigger_fireSlot hf, if_pos] at hrest
      rw [hany]
      refine hrest.trans ?_
      cases s.arms i i <;> cases set.any (fun j => s.arms j i) <;> simp
    · have hi : i ∈ set := (List.mem_cons.1 h).resolve_left hik
      have hsame : (fireSlot here k s).trigger i = s.trigger i := by
        rw [trigger_fireSlot_ne hik, TriggerSlot.rearmed_of_keeps (.inr ha), ite_self]
      have hki : ¬ i ≤ k := not_le.2 (hk i hi)
      have ih := ih (s := fireSlot here k s) hset hi (by rw [hsame, hf]) (by rw [hsame, ha])
      simp only [arms_fireSlot, hsame] at ih
      refine ih.trans ?_
      simp [hki]

/-! ### What a step with its consequences leaves alone (R56) -/

/-- No axis moves, and no STEP pulse is asked for. -/
def State.Unmoved (s t : State) : Prop :=
  ∀ b : AxisId, (t.axis b).position = (s.axis b).position ∧ (t.axis b).pulsesWaiting = (s.axis b).pulsesWaiting

theorem State.Unmoved.trans {t u : State} (h : s.Unmoved t) (k : t.Unmoved u) : s.Unmoved u := fun b =>
  ⟨(k b).1.trans (h b).1, (k b).2.trans (h b).2⟩

theorem State.Unmoved.of_axes {t : State} (h : t.axes = s.axes) : s.Unmoved t := fun b => by simp [State.axis, h]

theorem StopFrame.unmoved {t : State} (h : StopFrame s t) : s.Unmoved t := fun b => ⟨h.position b, h.pulsesWaiting b⟩

theorem applyAction_unmoved (act : Action) (s : State) : s.Unmoved (applyAction act s) := by
  cases act with
  | stopAxis k m => exact (stopHeld_frame k .triggerStop m false s).unmoved
  | armSlot m =>
    refine .of_axes ?_
    rw [applyAction, armSlot_eq]
    split <;> rfl
  | outSet n => exact .of_axes rfl
  | outClear n => exact .of_axes rfl
  | outPulse n w => exact .of_axes rfl
  | pwmDuty c v => exact .of_axes rfl
  | note => exact .of_axes rfl

theorem fireSlot_unmoved (here : Position) (i : Fin 24) (s : State) : s.Unmoved (fireSlot here i s) := by
  cases hf : (s.trigger i).fields with
  | none =>
    refine .of_axes ?_
    rw [fireSlot, hf]
  | some f =>
    have hfired : s.Unmoved (s.slotFired here i f) := by
      refine .of_axes ?_
      rw [State.slotFired]
      split <;> rfl
    rw [fireSlot_eq hf]
    exact hfired.trans (applyAction_unmoved _ _)

theorem fireAll_unmoved (here : Position) (set : List (Fin 24)) (s : State) : s.Unmoved (fireAll here set s) :=
  List.foldlRecOn set _ (.of_axes rfl) fun _ h i _ => h.trans (fireSlot_unmoved here i _)

/-- Whatever order a step's requests are taken in, its firing set fires among them, and they touch no slot (R79, R90,
R117). -/
theorem afterStep_shape (a : AxisId) (d : Direction) (s : State) : ∃ u, StopFrame s u ∧
    StopFrame (fireAll (s.axis a).position (firingSet a d (s.axis a).position s) u) (afterStep a d s) := by
  have hcount : StopFrame s { s with freeCount := s.freeCount + 1 } := stopFrame_book s s.joins s.reports _
  have hzone := zoneRequest_frame a
  have hlimit := fun met => limitRequest_frame met a
  unfold afterStep
  dsimp only
  split
  · split
    · next h =>
      rw [Bool.and_eq_true, List.isEmpty_iff] at h
      rw [h.1]
      exact ⟨s, .refl s, hzone s⟩
    · split
      · exact ⟨_, hcount.trans (hzone _), hlimit _ _⟩
      · split
        · exact ⟨_, hcount, (hzone _).trans (hlimit _ _)⟩
        · exact ⟨_, hcount, (hlimit _ _).trans (hzone _)⟩
  · exact ⟨s, .refl s, hlimit _ _⟩

/-- A step, its firings and its requests: the axis moves by one and asks for a pulse, and the trigger table is that of the
firings alone. -/
theorem issueStep_spec (ha : (s.axis a).active = some (g, p)) (hn : nextStep (s.axis a).state p = some (l, q))
    (hd : p.direction = some d) (hhere : here = (s.axis a).position + (if d = .positive then 1 else -1)) :
    (issue a l q s).Unmoved (issueStep a s) ∧
      ∃ u : State, u.triggers = s.triggers ∧
        (issueStep a s).triggers = (fireAll here (firingSet a d here s) u).triggers := by
  obtain ⟨u, hbefore, hafter⟩ := afterStep_shape a d (issue a l q s)
  have hposition : ((issue a l q s).axis a).position = here := by
    rw [axis_issue ((nextStep_keeps hn).1.trans hd), hhere]
  rw [hposition] at hafter
  rw [issueStep_eq ha hn hd]
  exact ⟨(hbefore.unmoved.trans (fireAll_unmoved here _ u)).trans hafter.unmoved, u, hbefore.triggers, hafter.triggers⟩

/-- The slots of a step's firing set, and the slots they arm. -/
theorem issueStep_triggers (ha : (s.axis a).active = some (g, p)) (hn : nextStep (s.axis a).state p = some (l, q))
    (hd : p.direction = some d) (hhere : here = (s.axis a).position + (if d = .positive then 1 else -1)) (i : Fin 24) :
    (i ∉ firingSet a d here s → (issueStep a s).trigger i =
      if (firingSet a d here s).any (fun j => s.arms j i) then (s.trigger i).rearmed else s.trigger i) ∧
    ∀ f, i ∈ firingSet a d here s → (s.trigger i).fields = some f → (issueStep a s).trigger i =
      if (firingSet a d here s).any (fun j => decide (i ≤ j) && s.arms j i) then ((s.trigger i).fired f).rearmed
      else (s.trigger i).fired f := by
  obtain ⟨-, u, hu, ht⟩ := issueStep_spec ha hn hd hhere
  have hslot (j : Fin 24) : u.trigger j = s.trigger j := trigger_of_triggers hu j
  have harms (j : Fin 24) : u.arms j i = s.arms j i := by rw [State.arms, State.arms, hslot]
  rw [trigger_of_triggers ht]
  refine ⟨fun hi => ?_, fun f hi hf => ?_⟩
  · rw [trigger_fireAll_of_notMem hi, hslot]
    simp only [harms]
  · obtain ⟨-, -, harmed, -⟩ := TriggerSlot.firesAt_iff.1 (mem_firingSet.1 hi)
    have hfire := trigger_fireAll_of_mem (s := u) (here := here) (firingSet_pairwise a d here s) hi
      (by rw [hslot, hf]) (by rw [hslot, harmed])
    rw [hfire, hslot]
    simp only [harms]

/-! ### A stop by a trigger (R118, R122) -/

variable {k : AxisId} {gk : Segment} {rest : List Segment} {pk : Progress}

theorem stopHeld_of_not_busy (c : Cause) (m : StopMode) (f : Bool) (h : (s.axis k).busy = false) :
    stopHeld k c m f s = s := by
  have hact : (s.axis k).active = none := by
    by_contra hne
    obtain ⟨v, hv⟩ := Option.ne_none_iff_exists'.1 hne
    simp [Axis.busy_of_active hv] at h
  simp only [stopHeld, stopEffect, hact, applyStop]

/-- A request that ends the active segment, with no flush. -/
theorem stopHeld_ends {c e : Cause} {m : StopMode} (hq : (s.axis k).queue = gk :: rest)
    (hp : (s.axis k).progress = some pk) (heffect : stopEffect s k c m false = .ends pk e) (hn : e.normal = false)
    (he : e ≠ .estop) : s.EndsHeld k gk rest pk e (.next (stopHeld k c m false s)) := by
  have hself : s.setAxis k { s.axis k with progress := some pk } = s := by
    rw [← hp, State.setAxis_self]
  rw [stopHeld, heffect, applyStop, hself]
  exact endHeld_endsHeld k gk rest pk e s hq hp hn he

/-- A request of a trigger that ends the segment at once: its cause is not normal, and so overtakes any recorded one
(R75). -/
theorem stopHeld_triggerStop_ends {m : StopMode} (hq : (s.axis k).queue = gk :: rest)
    (hp : (s.axis k).progress = some pk)
    (hs : (s.axis k).state = .waiting ∨ ((s.axis k).state = .running ∨ (s.axis k).state = .stopping) ∧ m = .abrupt) :
    s.EndsHeld k gk rest pk .triggerStop (.next (stopHeld k .triggerStop m false s)) := by
  refine stopHeld_ends hq hp ?_ rfl (by decide)
  have hover : overtakenCause pk.recordedCause .triggerStop = .triggerStop := by
    cases pk.recordedCause <;> rfl
  obtain hs | ⟨hs | hs, rfl⟩ := hs
  · simp only [stopEffect, Axis.active_of_busy (.inr (.inl hs)) hq hp, hs, Bool.or_false]
  · simp only [stopEffect, Axis.active_of_busy (.inl hs) hq hp, hs, Bool.or_false]
  · simp only [stopEffect, Axis.active_of_busy (.inr (.inr hs)) hq hp, hs, Bool.or_false, hover]

/-- A ramped request of a trigger to a RUNNING axis (R67). -/
theorem stopHeld_triggerStop_running (hs : (s.axis k).state = .running) (hq : (s.axis k).queue = gk :: rest)
    (hp : (s.axis k).progress = some pk) :
    match s.walkFrom k gk pk with
    | some (w, legs) => stopHeld k .triggerStop .ramped false s = s.walkBegun k pk w legs .triggerStop
    | none => s.EndsHeld k gk rest pk .triggerStop (.next (stopHeld k .triggerStop .ramped false s)) := by
  split
  · next w legs hw =>
    rw [stopHeld, stopEffect_walks _ false hs hq hp hw]
    simp only [applyStop, Bool.or_false]
    rfl
  · next hw =>
    refine stopHeld_ends hq hp ?_ rfl (by decide)
    have hrate : (s.axis k).currentRate = pk.rate := by simp [Axis.currentRate, hs, hp]
    have hramped := rampedStop_walkFrom k gk pk .triggerStop s hrate
    rw [hw] at hramped
    simp only [stopEffect, Axis.active_of_busy (.inl hs) hq hp, hs, Bool.or_false]
    exact hramped

/-- A ramped request of a trigger to a STOPPING axis decides its recorded cause anew (R76). -/
theorem stopHeld_triggerStop_stopping {c : Cause} (hs : (s.axis k).state = .stopping) (hq : (s.axis k).queue = gk :: rest)
    (hp : (s.axis k).progress = some pk) (hc : pk.recordedCause = some c) :
    stopHeld k .triggerStop .ramped false s = s.setAxis k { s.axis k with
      progress := some { pk with recordedCause := some (if c.normal then .triggerStop else c) } } := by
  simp only [stopHeld, stopEffect, Axis.active_of_busy (.inr (.inr hs)) hq hp, hs, hc, Bool.or_false, applyStop,
    rampedCause]

end Sys2Proof.Machine
end

section
/-! STEP_ISSUE in the words of its statement: the slots that fire and the slots they arm (R116, R117, R121), and the one
firing of a step that meets nothing else (R117 to R122, R132). -/

namespace Sys2Proof.Machine

variable {s : State} {a : AxisId} {d : Direction} {here : Position} {g : Segment} {p q : Progress} {l : Leg}

/-! ### The slots of a firing set -/

theorem TriggerSlot.fired_state {t : TriggerSlot} {f : TriggerFields} (h : t.state = .armed) :
    (t.fired f).state = if f.mode = .oneshot then .spent else .armed := by
  rw [TriggerSlot.fired]
  cases f.mode
  · rfl
  · exact h

/-- The fire count of a sound slot stops at 65,535 (R109, R117). -/
theorem addSaturating_fireCount {t : TriggerSlot} {f : TriggerFields} (h : t.sound = true) (hf : t.fields = some f) :
    addSaturating 65535 t.fireCount = min 65535 (t.fireCount + 1) := by
  simp only [TriggerSlot.sound, hf, Bool.and_eq_true, decide_eq_true_eq] at h
  obtain ⟨⟨-, hcount⟩, -⟩ := h
  unfold addSaturating
  split <;> omega

/-- A slot that fires at a step counts it and stays ARMED or is SPENT, unless the step arms it again. -/
theorem slot_of_fires {i : Fin 24} {f : TriggerFields} (ha : (s.axis a).active = some (g, p))
    (hn : nextStep (s.axis a).state p = some (l, q)) (hd : p.direction = some d)
    (hhere : here = (s.axis a).position + (if d = .positive then 1 else -1)) (hsound : (s.trigger i).sound)
    (hi : i ∈ firingSet a d here s) (hf : (s.trigger i).fields = some f) :
    ((issueStep a s).trigger i).fireCount = min 65535 ((s.trigger i).fireCount + 1) ∧
      (f.mode = .rearm → ((issueStep a s).trigger i).state = .armed) ∧
      (f.mode = .oneshot → (∃ j ∈ firingSet a d here s, i ≤ j ∧ s.arms j i = true) →
        ((issueStep a s).trigger i).state = .armed) ∧
      (f.mode = .oneshot → (∀ j ∈ firingSet a d here s, i ≤ j → s.arms j i = false) →
        ((issueStep a s).trigger i).state = .spent) := by
  have hslot := (issueStep_triggers ha hn hd hhere i).2 f hi hf
  obtain ⟨-, -, harmed, -⟩ := TriggerSlot.firesAt_iff.1 (mem_firingSet.1 hi)
  have hstate := TriggerSlot.fired_state (f := f) harmed
  have hcount : ((s.trigger i).fired f).fireCount = min 65535 ((s.trigger i).fireCount + 1) :=
    addSaturating_fireCount hsound hf
  have hfree : ((s.trigger i).fired f).state ≠ .free := by
    rw [hstate]
    split <;> simp
  rw [hslot]
  refine ⟨?_, fun hm => ?_, fun hm hj => ?_, fun hm hj => ?_⟩
  · split
    · rw [TriggerSlot.rearmed_fireCount, hcount]
    · exact hcount
  · split
    · exact TriggerSlot.rearmed_state hfree
    · rw [hstate, hm]
      rfl
  · obtain ⟨j, hj, hle, harms⟩ := hj
    rw [if_pos (List.any_eq_true.2 ⟨j, hj, by simp [hle, harms]⟩)]
    exact TriggerSlot.rearmed_state hfree
  · rw [if_neg, hstate, if_pos hm]
    rw [List.any_eq_true]
    rintro ⟨j, hmem, h⟩
    rw [Bool.and_eq_true, decide_eq_true_eq] at h
    exact absurd (hj j hmem h.1) (by rw [h.2]; decide)

/-- A slot that does not fire at a step keeps its count, and is armed if the step names it. -/
theorem slot_of_not_fires {i : Fin 24} (ha : (s.axis a).active = some (g, p))
    (hn : nextStep (s.axis a).state p = some (l, q)) (hd : p.direction = some d)
    (hhere : here = (s.axis a).position + (if d = .positive then 1 else -1)) (hi : i ∉ firingSet a d here s) :
    ((issueStep a s).trigger i).fireCount = (s.trigger i).fireCount ∧
      ((s.trigger i).state = .disarmed ∨ (s.trigger i).state = .spent →
        (∃ j ∈ firingSet a d here s, s.arms j i = true) → ((issueStep a s).trigger i).state = .armed) ∧
      ((s.trigger i).state = .free ∨ (s.trigger i).state = .armed ∨ (∀ j ∈ firingSet a d here s, s.arms j i = false) →
        (issueStep a s).trigger i = s.trigger i) := by
  rw [(issueStep_triggers ha hn hd hhere i).1 hi]
  refine ⟨?_, fun hs hj => ?_, fun h => ?_⟩
  · split
    · exact TriggerSlot.rearmed_fireCount _
    · rfl
  · rw [if_pos (List.any_eq_true.2 hj)]
    exact TriggerSlot.rearmed_state (by obtain hs | hs := hs <;> simp [hs])
  · obtain h | h | h := h
    · rw [TriggerSlot.rearmed_of_keeps (.inl h), ite_self]
    · rw [TriggerSlot.rearmed_of_keeps (.inr h), ite_self]
    · rw [if_neg]
      rw [List.any_eq_true]
      rintro ⟨j, hj, harms⟩
      exact absurd (h j hj) (by rw [harms]; decide)

/-- Where one slot fires, the firing set is that slot. -/
theorem firingSet_eq_singleton {i : Fin 24} (h : ∀ j, j ∈ firingSet a d here s ↔ j = i) : firingSet a d here s = [i] := by
  have hnodup : (firingSet a d here s).Nodup := (firingSet_pairwise a d here s).imp fun h => h.ne
  refine List.perm_singleton.1 ((List.perm_ext_iff_of_nodup hnodup (List.nodup_singleton i)).2 fun j => ?_)
  rw [h j, List.mem_singleton]

/-- The one firing of a step that meets no SLOW zone and no search limit. -/
theorem issueStep_single {i : Fin 24} {f : TriggerFields} (ha : (s.axis a).active = some (g, p))
    (hn : nextStep (s.axis a).state p = some (l, q)) (hd : p.direction = some d) (ht : p.stepsTaken < 8388607)
    (hslow : s.accepted (.axis a .slow) = false) (hg : g.work.isHome = false)
    (hhere : here = (s.axis a).position + (if d = .positive then 1 else -1))
    (hset : firingSet a d here s = [i]) (hf : (s.trigger i).fields = some f) :
    issueStep a s = applyAction f.action ((s.setAxis a { s.axis a with
      position := here
      pulsesWaiting := (s.axis a).pulsesWaiting + 1
      progress := some { q with stepsTaken := p.stepsTaken + 1, rate := l.rate } }).slotFired here i f) := by
  subst hhere
  rw [issueStep_fires ha hn hd hslow hg, hset, issue_eq hn hd ht, fireAll, List.foldl_cons, List.foldl_nil]
  exact fireSlot_eq hf

/-- The duty that a trigger writes to a channel (R132). -/
theorem writeDuty_eq (c : PwmChannel) (duty : Nat) : c.writeDuty duty =
    match c.enabled, c.pending with
    | true, some r => { c with pending := some { period := r.period, duty := duty } }
    | true, none => { c with pending := some { period := c.active.period, duty := duty } }
    | false, _ => { c with active := { period := c.active.period, duty := min duty c.active.period } } := by
  unfold PwmChannel.writeDuty
  cases c.enabled <;> cases c.pending <;> rfl

/-- The report and the slot of a firing, for a slot that was ARMED (R117). -/
theorem slotFired_eq {i : Fin 24} {f : TriggerFields} (hsound : (s.trigger i).sound) (hf : (s.trigger i).fields = some f)
    (harmed : (s.trigger i).state = .armed) (haxis : f.axis = a) :
    s.slotFired here i f =
      let count := min 65535 ((s.trigger i).fireCount + 1)
      let fired := s.setTrigger i { s.trigger i with
        fireCount := count, state := if f.mode = .oneshot then .spent else .armed }
      if f.report then admitReport (.triggerFired i a here count) fired else fired := by
  have hcount : addSaturating 65535 (s.trigger i).fireCount = min 65535 ((s.trigger i).fireCount + 1) :=
    addSaturating_fireCount hsound hf
  have hslot : (s.trigger i).fired f = { s.trigger i with
      fireCount := min 65535 ((s.trigger i).fireCount + 1), state := if f.mode = .oneshot then .spent else .armed } := by
    rw [← TriggerSlot.fired_state harmed, ← hcount]
    rfl
  rw [State.slotFired, hslot, haxis]

/-- What the words of R116 say of a slot, as the firing set holds it. -/
theorem fires_iff {i : Fin 24} : (∃ f, (s.trigger i).fields = some f ∧ (s.trigger i).state = .armed ∧ f.axis = a ∧
    f.position = here ∧ (f.qualifier = .either ∨ f.qualifier = (if d = .positive then .positive else .negative))) ↔
      i ∈ firingSet a d here s :=
  (mem_firingSet.trans TriggerSlot.firesAt_iff).symm

/-- Settles O49: the firings of a step go through its firing set in ascending order, and the one firing of a set of one slot
is followed by its action alone. -/
theorem stepsMoveOneAxisAndFireItsTriggers : Obligations.StepsMoveOneAxisAndFireItsTriggers := by
  intro a s hr hsound
  have hexec : exec (.stepIssue a) s = .next (issueStep a s) := congrArg Host.Outcome.next (exec_running hr)
  refine ⟨fun hnone => ?_, fun g p q l d ha hn hd => ?_⟩
  · rw [hexec, issueStep]
    split
    · rfl
    · next g p hact => rw [hnone g p hact]
  extract_lets here fires arms _ stepped o
  have hfires (i : Fin 24) : fires i ↔ i ∈ firingSet a d here s := fires_iff
  have harms (j i : Fin 24) : arms j i ↔ j ∈ firingSet a d here s ∧ s.arms j i = true := by
    rw [State.arms_iff]
    exact and_congr_left' (hfires j)
  refine ⟨⟨issueStep a s, hexec, ?_⟩, fun i f hi hone hf ht hslow hg => ?_⟩
  · obtain ⟨hmoved, -⟩ := issueStep_spec ha hn hd rfl
    have hframe := issueStep_frame a s
    have hother {b : AxisId} (hb : b ≠ a) : (issue a l q s).axis b = s.axis b := State.axis_setAxis_ne _ _ _ _ hb
    have hself := axis_issue (s := s) (a := a) (l := l) ((nextStep_keeps hn).1.trans hd)
    have hslot {i : Fin 24} {f : TriggerFields} (hi : fires i) (hf : (s.trigger i).fields = some f) :=
      slot_of_fires ha hn hd rfl (hsound i) ((hfires i).1 hi) hf
    have hrest {i : Fin 24} (hi : ¬ fires i) := slot_of_not_fires ha hn hd rfl (mt (hfires i).2 hi)
    refine ⟨(hmoved a).1.trans (by rw [hself]), (hmoved a).2.trans (by rw [hself]), fun b hb => ?_, fun i hi => ?_,
      fun i hi => (hrest hi).1, hframe.fields, fun i f hi hf => ?_, fun i hi => ?_, hframe.inputs, hframe.profiles,
      hframe.line, hframe.uptime⟩
    · rw [(hmoved b).1, (hmoved b).2, hother hb]
      exact ⟨rfl, rfl⟩
    · obtain ⟨f, hf, -⟩ := id hi
      exact (hslot hi hf).1
    · obtain ⟨-, hrearm, hagain, hspent⟩ := hslot hi hf
      refine ⟨hrearm, fun hm ⟨j, hle, hj⟩ => ?_, fun hm hj => hspent hm fun j hmem hle => ?_⟩
      · obtain ⟨hmem, harm⟩ := (harms j i).1 hj
        exact hagain hm ⟨j, hmem, hle, harm⟩
      · rw [Bool.eq_false_iff]
        exact fun harm => hj j hle ((harms j i).2 ⟨hmem, harm⟩)
    · obtain ⟨-, harmed, hkept⟩ := hrest hi
      refine ⟨fun hs ⟨j, hj⟩ => harmed hs ⟨j, (harms j i).1 hj⟩, fun h => hkept (h.imp_right (.imp_right fun hj j hmem => ?_))⟩
      rw [Bool.eq_false_iff]
      exact fun harm => hj j ((harms j i).2 ⟨hmem, harm⟩)
  · intro count fired u
    obtain ⟨f', hf', harmed, haxis, -⟩ := id hi
    obtain rfl : f = f' := Option.some.inj (hf.symm.trans hf')
    have hset : firingSet a d here s = [i] := firingSet_eq_singleton fun j =>
      (hfires j).symm.trans ⟨hone j, fun h => h ▸ hi⟩
    have hu : stepped.slotFired here i f = u := slotFired_eq (s := stepped) (hsound i) hf harmed haxis
    have ho : o = .next (applyAction f.action u) := by
      rw [← hu]
      exact hexec.trans (congrArg _ (issueStep_single ha hn hd ht hslow hg rfl hset hf))
    rw [ho]
    clear_value u
    cases f.action with
    | outSet n => rfl
    | outClear n => rfl
    | outPulse n w => rfl
    | pwmDuty c duty => exact congrArg (fun x => Host.Outcome.next (u.setChannel c x)) (writeDuty_eq _ _)
    | armSlot m => exact congrArg _ (armSlot_eq m u)
    | note => rfl
    | stopAxis k mode =>
      have hidle := stopHeld_of_not_busy (s := u) (k := k) .triggerStop mode false
      refine ⟨fun hb => congrArg _ (hidle hb), fun gk rest pk hq hp => ?_⟩
      have hends := stopHeld_triggerStop_ends (s := u) (m := mode) hq hp
      split
      · next hs => exact hends (.inl hs)
      · next hs => exact hends (.inr ⟨.inl hs, rfl⟩)
      · next hs => exact hends (.inr ⟨.inr hs, rfl⟩)
      · next hs =>
        have hramped := stopHeld_triggerStop_running hs hq hp
        split <;> rename_i hw <;> rw [hw] at hramped
        · exact congrArg _ hramped
        · exact hramped
      · next hs => exact fun c hc => congrArg _ (stopHeld_triggerStop_stopping hs hq hp hc)
      · next hs => exact congrArg _ (hidle (by simp [Axis.busy, hs]))
      · next hs => exact congrArg _ (hidle (by simp [Axis.busy, hs]))
      · next hs => exact congrArg _ (hidle (by simp [Axis.busy, hs]))

end Sys2Proof.Machine
end

section
/-! A WAIT_INPUT that times out (R95) and the breaks it brings (R102, R104, R105): how far the breaks of a book of meetings
have got, with some axes left out of it, as every part of a break search keeps it. -/

namespace Sys2Proof.Machine

/-! ### How far the breaks of a book have got -/

/-- The JOIN of an arrived axis has ended JOIN_BROKEN: the axis is HELD with that cause and the rest of its queue (R104). -/
def Axis.JoinBroken (x y : Axis) : Prop :=
  y.state = .held ∧ y.heldCause = .stopped .joinBroken ∧ y.queue = x.queue.tail

/-- The breaks of the meetings of `s` have got to `t`: records only leave the book; an axis whose record has left it is
held, and every other is as it was. The axes of `P`, which no record holds, are left out: they are between two states. -/
structure Breaking (s : State) (P : Set AxisId) (t : State) : Prop where
  records : ∀ r ∈ t.joins, r ∈ s.joins
  away : ∀ b ∈ P, ∀ r ∈ t.joins, r.here b = false
  kept : ∀ b ∉ P, (∀ r ∈ s.joins, r.here b = true → r ∈ t.joins) → t.axis b = s.axis b
  broken : ∀ b ∉ P, ∀ r ∈ s.joins, r.here b = true → r ∉ t.joins → (s.axis b).JoinBroken (t.axis b)

/-- The breaks of `s` go on from `t` to `u`, and leave the axes of `P` alone. -/
structure BreaksOn (s : State) (P : Set AxisId) (t u : State) : Prop where
  breaking : Breaking s P u
  fewer : ∀ r ∈ u.joins, r ∈ t.joins
  same : ∀ b ∈ P, u.axis b = t.axis b

/-- A break search that goes on with the breaks (R105). -/
def SearchBreaks (s : State) (search : AxisId → State → State) : Prop :=
  ∀ (P : Set AxisId) (a : AxisId) (t : State), Breaking s P t → BreaksOn s P t (search a t)

variable {s t u v : State} {P : Set AxisId} {a b : AxisId} {r q : JoinRecord} {search : AxisId → State → State}

/-- The axes of `P` may change, and all but the axes and the book. -/
theorem Breaking.congr (h : Breaking s P t) (hj : u.joins = t.joins) (hx : ∀ b ∉ P, u.axis b = t.axis b) :
    Breaking s P u where
  records := by rw [hj]; exact h.records
  away := by rw [hj]; exact h.away
  kept b hb := by rw [hj, hx b hb]; exact h.kept b hb
  broken b hb := by rw [hj, hx b hb]; exact h.broken b hb

theorem BreaksOn.refl (h : Breaking s P t) : BreaksOn s P t t := ⟨h, fun _ hr => hr, fun _ _ => rfl⟩

theorem BreaksOn.trans (h : BreaksOn s P t u) (k : BreaksOn s P u v) : BreaksOn s P t v :=
  ⟨k.breaking, fun r hr => h.fewer r (k.fewer r hr), fun b hb => (k.same b hb).trans (h.same b hb)⟩

/-! ### The arrived axes of a sound book (R97) -/

theorem arrived_unique (hj : s.JoinsSound) (hr : r ∈ s.joins) (hq : q ∈ s.joins) (hbr : r.here b = true)
    (hbq : q.here b = true) : r = q := by
  obtain ⟨-, htokens, -, hwaits, -⟩ := hj
  exact List.inj_on_of_nodup_map htokens hr hq (Axis.waitsIn_token (hwaits b r hr hbr) (hwaits b q hq hbq))

/-- A WAITING axis of the table has taken no step and has no flush pending (R40, R53). -/
theorem waiting_fits {g : Segment} {p : Progress} (hf : (s.axis b).fits = true) (hs : (s.axis b).state = .waiting)
    (ha : (s.axis b).active = some (g, p)) : p.stepsTaken = 0 ∧ p.flushPending = false := by
  have hfits : p.fitsWaiting g.work = true := by simpa [hs] using (Axis.fits_active hf ha).2
  simp only [Progress.fitsWaiting, Bool.and_eq_true, Bool.not_eq_true', decide_eq_true_eq] at hfits
  obtain ⟨⟨⟨⟨⟨-, hflush⟩, -⟩, -⟩, hsteps⟩, -⟩ := hfits
  exact ⟨hsteps, hflush⟩

theorem arrived_waits (hf : s.AxesFit) (hj : s.JoinsSound) (hr : r ∈ s.joins) (hb : r.here b = true) :
    (s.axis b).waitingOnJoin = true ∧ (s.axis b).flushPending = false := by
  obtain ⟨-, -, -, hwaits, -⟩ := hj
  have hw := hwaits b r hr hb
  obtain ⟨hs, g, p, ha, -⟩ := Axis.waitsIn_iff.1 hw
  obtain ⟨-, -, hp⟩ := Axis.active_eq_some ha
  refine ⟨Axis.onJoin_of_waitsIn hw, ?_⟩
  simp [Axis.flushPending, hp, waiting_fits (hf b) hs ha]

/-! ### One record -/

theorem closeSegment_tail (c : Cause) (h : (s.axis a).flushPending = false) :
    ((closeSegment a c s).axis a).queue = (s.axis a).queue.tail := by
  obtain ⟨hq, e⟩ | ⟨g, rest, hq, e⟩ := closeSegment_spec a c s
  · rw [e, hq]; rfl
  · rw [e, hq]
    simp only [h, Bool.false_eq_true, if_false]
    split <;> simp

/-- The JOIN of a member of a record that has been freed ends, and its axis is in the book of breaks again. -/
theorem endBroken_breaks (hs : SearchBreaks s search) (hf : s.AxesFit) (hj : s.JoinsSound)
    (h : Breaking s (insert b P) t) (hb : b ∉ P) (hx : t.axis b = s.axis b) (hr : r ∈ s.joins) (hh : r.here b = true) :
    BreaksOn s P t (endBroken search b t) := by
  obtain ⟨hwait, hflush⟩ := arrived_waits hf hj hr hh
  rw [← hx] at hwait hflush
  have hother {c : AxisId} (hc : c ≠ b) : (closeSegment b .joinBroken t).axis c = t.axis c :=
    closeSegment_other b c .joinBroken t hc
  have hne {c : AxisId} (hc : c ∈ P) : c ≠ b := fun e => hb (e ▸ hc)
  have hclosed : Breaking s (insert b P) (closeSegment b .joinBroken t) :=
    h.congr (closeSegment_joins b _ t) fun c hc => hother fun e => hc (e ▸ Set.mem_insert b P)
  have hwithdraw : withdraw b (closeSegment b .joinBroken t) = closeSegment b .joinBroken t :=
    withdraw_away (hclosed.away b (Set.mem_insert b P))
  have hsearch := hs _ b _ hclosed
  have hend : endBroken search b t = hold b (.stopped .joinBroken) (search b (closeSegment b .joinBroken t)) := by
    simp [endBroken, hwait, hwithdraw, settle]
  have hself : (s.axis b).JoinBroken ((endBroken search b t).axis b) := by
    rw [hend, hold, State.axis_setAxis_self, hsearch.same b (Set.mem_insert b P)]
    exact ⟨rfl, rfl, (closeSegment_tail _ hflush).trans (by rw [hx])⟩
  have hrest {c : AxisId} (hc : c ≠ b) :
      (endBroken search b t).axis c = (search b (closeSegment b .joinBroken t)).axis c := by
    rw [hend]
    exact State.axis_setAxis_ne _ _ _ _ hc
  have hjoins : (endBroken search b t).joins = (search b (closeSegment b .joinBroken t)).joins := by
    rw [hend]
    rfl
  have hgone : r ∉ (endBroken search b t).joins := fun hmem => by
    rw [hjoins] at hmem
    simp [hsearch.breaking.away b (Set.mem_insert b P) r hmem] at hh
  refine ⟨⟨?_, fun c hc => ?_, fun c hc hall => ?_, fun c hc q hq hcq hout => ?_⟩, ?_, fun c hc => ?_⟩
  · rw [hjoins]
    exact hsearch.breaking.records
  · rw [hjoins]
    exact hsearch.breaking.away c (Set.mem_insert_of_mem b hc)
  · by_cases e : c = b
    · subst e
      exact absurd (hall r hr hh) hgone
    · rw [hjoins] at hall
      rw [hrest e]
      exact hsearch.breaking.kept c (by simp [e, hc]) hall
  · by_cases e : c = b
    · subst e
      exact hself
    · rw [hjoins] at hout
      rw [hrest e]
      exact hsearch.breaking.broken c (by simp [e, hc]) q hq hcq hout
  · rw [hjoins, ← closeSegment_joins b .joinBroken t]
    exact hsearch.fewer
  · rw [hrest (hne hc), hsearch.same c (Set.mem_insert_of_mem b hc), hother (hne hc)]

/-- The JOINs of the arrived members of a record that has been freed end one by one. -/
theorem foldl_endBroken_breaks (hs : SearchBreaks s search) (hf : s.AxesFit) (hj : s.JoinsSound) (hr : r ∈ s.joins)
    (l : List AxisId) (hn : l.Nodup) (t : State) (h : Breaking s ({b | b ∈ l} ∪ P) t)
    (hl : ∀ b ∈ l, b ∉ P ∧ r.here b = true ∧ t.axis b = s.axis b) :
    BreaksOn s P t (l.foldl (fun s b => endBroken search b s) t) := by
  induction l generalizing t with
  | nil => exact .refl (by simpa using h)
  | cons b l ih =>
    obtain ⟨hb, hn⟩ := List.nodup_cons.1 hn
    obtain ⟨hbP, hh, hx⟩ := hl b (by simp)
    have e : ({c | c ∈ b :: l} ∪ P : Set AxisId) = insert b ({c | c ∈ l} ∪ P) := by ext c; simp [or_assoc]
    rw [e] at h
    have h1 := endBroken_breaks hs hf hj h (by simpa using ⟨hb, hbP⟩) hx hr hh
    have h2 := ih hn _ h1.breaking fun c hc => by
      obtain ⟨hcP, hch, hcx⟩ := hl c (by simp [hc])
      exact ⟨hcP, hch, (h1.same c (by simp [hc])).trans hcx⟩
    exact ⟨h2.breaking, fun q hq => h1.fewer q (h2.fewer q hq), fun c hc => (h2.same c hc).trans (h1.same c (by simp [hc]))⟩

/-- A record is freed: the axes arrived in it are left out, until their JOINs have ended. -/
theorem Breaking.free (hj : s.JoinsSound) (h : Breaking s P t) (hr : r ∈ t.joins) :
    Breaking s ({b | r.here b = true} ∪ P) { t with joins := t.joins.filter fun q => q.token != r.token } := by
  obtain ⟨-, htokens, -⟩ := id hj
  refine ⟨fun q hq => h.records q (List.mem_of_mem_filter hq), fun b hb q hq => ?_, fun b hb hall => ?_,
    fun b hb q hq hbq hout => ?_⟩
  · obtain ⟨hq, hne⟩ := List.mem_filter.1 hq
    obtain hb | hb := hb
    · rw [Bool.eq_false_iff]
      intro hbq
      obtain rfl := arrived_unique hj (h.records r hr) (h.records q hq) hb hbq
      simp at hne
    · exact h.away b hb q hq
  · exact h.kept b (fun hP => hb (.inr hP)) fun q hq hbq => List.mem_of_mem_filter (hall q hq hbq)
  · refine h.broken b (fun hP => hb (.inr hP)) q hq hbq fun hmem => hout (List.mem_filter.2 ⟨hmem, ?_⟩)
    rw [bne_iff_ne]
    intro e
    obtain rfl := List.inj_on_of_nodup_map htokens hq (h.records r hr) e
    exact hb (.inl hbq)

/-- A record is broken (R104): no record of its token is open afterwards. -/
theorem breakRecord_breaks (hs : SearchBreaks s search) (hf : s.AxesFit) (hj : s.JoinsSound) (token : Nat)
    (h : Breaking s P t) :
    BreaksOn s P t (breakRecord search token t) ∧ ∀ q ∈ (breakRecord search token t).joins, q.token ≠ token := by
  unfold breakRecord
  split
  · next hnone => exact ⟨.refl h, fun q hq => by simpa using List.find?_eq_none.1 hnone q hq⟩
  · next r hfind =>
    have hr : r ∈ t.joins := List.mem_of_find?_eq_some hfind
    obtain rfl : r.token = token := by simpa using List.find?_some hfind
    have e : ({b | r.here b = true} : Set AxisId) = {b | b ∈ axesOf r.arrived} := by
      ext b; simp [mem_axesOf, JoinRecord.here]
    have hfree := h.free hj hr
    rw [e] at hfree
    have hfold := foldl_endBroken_breaks hs hf hj (h.records r hr) _ (nodup_axesOf r.arrived) _ hfree fun b hb => by
      have hh : r.here b = true := mem_axesOf.1 hb
      have hP : b ∉ P := fun hP => by simp [h.away b hP r hr] at hh
      refine ⟨hP, hh, h.kept b hP fun q hq hbq => ?_⟩
      rwa [arrived_unique hj hq (h.records r hr) hbq hh]
    refine ⟨⟨hfold.breaking, fun q hq => List.mem_of_mem_filter (hfold.fewer q hq), hfold.same⟩, fun q hq => ?_⟩
    simpa using (List.mem_filter.1 (hfold.fewer q hq)).2

/-! ### The break search (R104, R105) -/

theorem foldl_breakRecord_breaks (hs : SearchBreaks s search) (hf : s.AxesFit) (hj : s.JoinsSound) (order : List Nat)
    (h : Breaking s P t) :
    BreaksOn s P t (order.foldl (fun s n => breakRecord search n s) t) ∧
      ∀ n ∈ order, ∀ q ∈ (order.foldl (fun s n => breakRecord search n s) t).joins, q.token ≠ n := by
  induction order generalizing t with
  | nil => exact ⟨.refl h, fun n hn => by simp at hn⟩
  | cons m order ih =>
    obtain ⟨h1, hfree⟩ := breakRecord_breaks hs hf hj m h
    obtain ⟨h2, hrest⟩ := ih h1.breaking
    refine ⟨h1.trans h2, fun n hn q hq => ?_⟩
    obtain rfl | hn := List.mem_cons.1 hn
    · exact hfree q (h2.fewer q hq)
    · exact hrest n hn q hq

/-- A break search with room for its own breaks frees every record in which the axis is a member that has not arrived. -/
theorem breakSearch_succ_breaks (fuel : Nat) (hs : SearchBreaks s (breakSearch fuel)) (hf : s.AxesFit) (hj : s.JoinsSound)
    (h : Breaking s P t) (a : AxisId) :
    BreaksOn s P t (breakSearch (fuel + 1) a t) ∧
      ∀ q ∈ (breakSearch (fuel + 1) a t).joins, q.member a = true → q.here a = true := by
  obtain ⟨hperm, n, hcount⟩ :=
    drawOrder_spec ((t.joins.filter fun r => r.member a && !r.here a).map JoinRecord.token) t
  have h0 : Breaking s P { t with freeCount := n } := h.congr rfl fun _ _ => rfl
  obtain ⟨hfold, hfree⟩ := foldl_breakRecord_breaks hs hf hj
    (drawOrder ((t.joins.filter fun r => r.member a && !r.here a).map JoinRecord.token) t).1 h0
  simp only [breakSearch, hcount]
  refine ⟨⟨hfold.breaking, hfold.fewer, hfold.same⟩, fun q hq hm => ?_⟩
  by_contra hh
  refine hfree q.token (hperm.mem_iff.2 (List.mem_map_of_mem (List.mem_filter.2 ⟨hfold.fewer q hq, ?_⟩))) q hq rfl
  simpa [hm] using hh

theorem breakSearch_breaks (hf : s.AxesFit) (hj : s.JoinsSound) (fuel : Nat) : SearchBreaks s (breakSearch fuel) := by
  induction fuel with
  | zero => exact fun P a t h => .refl h
  | succ fuel ih => exact fun P a t h => (breakSearch_succ_breaks fuel ih hf hj h a).1

/-! ### INPUT_TIMEOUT (R95) -/

/-- The end of a segment of an axis that has arrived nowhere, with a cause that breaks: every record in which the axis is a
member is broken. -/
theorem endHeld_breaks {c : Cause} (hf : s.AxesFit) (hj : s.JoinsSound) (hc : c.breaks = true) (hne : c ≠ .estop)
    (ha : ∀ r ∈ s.joins, r.here a = false) :
    Breaking s {a} (endHeld a c s) ∧ ∀ r ∈ (endHeld a c s).joins, r.member a = false := by
  have hclosed : Breaking s {a} (closeSegment a c s) := by
    have hjoins := closeSegment_joins a c s
    refine ⟨?_, fun b hb => ?_, fun b hb _ => closeSegment_other a b c s hb, fun b _ r hr _ hout => ?_⟩
    · rw [hjoins]
      exact fun r hr => hr
    · rw [hb]
      exact closeSegment_away c ha
    · exact absurd (hjoins ▸ hr) hout
  have hsearch : BreaksOn s {a} (closeSegment a c s) (notifyJoins a c (closeSegment a c s)) ∧
      ∀ r ∈ (notifyJoins a c (closeSegment a c s)).joins, r.member a = true → r.here a = true := by
    rw [notifyJoins, withdraw_away (closeSegment_away c ha), if_pos hc]
    cases hl : (closeSegment a c s).joins.length with
    | zero => exact ⟨.refl hclosed, by simp [breakSearch, List.length_eq_zero_iff.1 hl]⟩
    | succ n => exact breakSearch_succ_breaks n (breakSearch_breaks hf hj n) hf hj hclosed a
  obtain ⟨hbreaks, hfree⟩ := hsearch
  obtain ⟨x, hx⟩ : ∃ x, endHeld a c s = (notifyJoins a c (closeSegment a c s)).setAxis a x := by
    simp only [endHeld, settle, if_neg hne]
    split
    · exact ⟨_, rfl⟩
    · exact ⟨_, rfl⟩
  rw [hx]
  refine ⟨hbreaks.breaking.congr rfl fun b hb => State.axis_setAxis_ne _ _ _ _ hb, fun r hr => ?_⟩
  rw [Bool.eq_false_iff]
  intro hm
  have hout := hbreaks.breaking.away a rfl r hr
  rw [hfree r hr hm] at hout
  cases hout

/-- Settles O44: the axis waits on no JOIN, so it has arrived nowhere, and the search after its end breaks every record it
is a member of. -/
theorem inputTimeoutHoldsAndBreaksMeetings : Obligations.InputTimeoutHoldsAndBreaksMeetings := by
  intro a g rest p i wanted timeout s hr hf hj hs hq hp hg hd e
  have hact := Axis.active_of_busy (.inr (.inl hs)) hq hp
  have haway : ∀ r ∈ s.joins, r.here a = false := by
    intro r hr
    rw [Bool.eq_false_iff]
    intro hh
    obtain ⟨-, -, -, hwaits, -⟩ := hj
    obtain ⟨-, g', p', hact', hjoin⟩ := Axis.waitsIn_iff.1 (hwaits a r hr hh)
    obtain ⟨rfl, -⟩ := Prod.mk.inj (Option.some.inj (hact.symm.trans hact'))
    rw [hg] at hjoin
    cases hjoin
  have hexec : exec (.inputTimeout a) s = .next (endHeld a .inputTimeout s) := by
    have hdue : waitDue .waitInput a s = true := by
      simp [waitDue, hact, hs, hg, hd, Work.kind, State.due]
    refine congrArg Host.Outcome.next ?_
    rw [exec_running hr, if_pos hdue]
  have hwaiting := waiting_fits (hf a) hs hact
  have hrecord : s.endRecord a g rest p .inputTimeout = e := by
    simp [State.endRecord, e, hwaiting, hg, Work.kind]
  obtain ⟨t, ht, haxis, -, -, -, -, -, -, -, -, halone⟩ :=
    endHeld_endsHeld a g rest p .inputTimeout s hq hp rfl (by decide)
  obtain rfl := Host.Outcome.next.inj ht
  obtain ⟨hbreaks, hfree⟩ := endHeld_breaks (a := a) (c := .inputTimeout) hf hj rfl (by decide) haway
  have hheld : s.heldAfter a g rest p .inputTimeout = admitReport (.segmentDone a e) (s.setAxis a { s.axis a with
      state := .held, heldCause := .stopped .inputTimeout, queue := rest, lastEnd := some e, progress := none }) := by
    simp [State.heldAfter, hrecord, hwaiting]
  rw [hheld] at haxis halone
  refine ⟨_, hexec, haxis.trans (State.axis_setAxis_self _ _ _), fun r hr => ⟨hbreaks.records r hr, hfree r hr⟩,
    fun r hr hm b hb => ?_, fun hnone => ?_⟩
  · refine hbreaks.broken b ?_ r hr hb fun hmem => ?_
    · rintro rfl
      simp [haway r hr] at hb
    · simp [hfree r hmem] at hm
  · rw [halone fun r hr => ⟨hnone r hr, haway r hr⟩]
    exact ⟨rfl, fun b hb => State.axis_setAxis_ne _ _ _ _ hb, rfl⟩

end Sys2Proof.Machine
end
section
/-! The release of a join by its last arrival (R98, R100, R101): what the ends of the members' JOINs and the activations
after them come to where no member has anything else queued. -/

namespace Sys2Proof.Machine

variable {s : State} {a : AxisId} {g : Segment} {rest : List Segment} {going : List AxisId} {r : JoinRecord}

/-! ### The ends of the members' JOINs, in the words of each member's own record (R59, R100) -/

/-- The axis after the close of its head segment with cause `c`, before anything becomes of the axis (R59). -/
def Axis.closed (x : Axis) (c : Cause) : Axis :=
  match x.queue with
  | [] => x
  | g :: rest =>
    { x with
      queue := if x.flushPending then [] else rest
      lastEnd := some (endRecordOf x g rest c)
      progress := none }

/-- The axis whose last segment, a JOIN, has ended with its meeting: IDLE, with nothing queued (R60, R100). -/
def Axis.released (x : Axis) (g : Segment) : Axis :=
  { x with
    state := .idle
    heldCause := .none
    queue := []
    lastEnd := some (endRecordOf x g [] .complete)
    progress := none }

theorem Axis.closed_last {x : Axis} (c : Cause) (hq : x.queue = [g]) :
    x.closed c = { x with queue := [], lastEnd := some (endRecordOf x g [] c), progress := none } := by
  simp [Axis.closed, hq]

theorem closeSegment_axis (c : Cause) (a b : AxisId) (s : State) :
    (closeSegment a c s).axis b = if b = a then (s.axis a).closed c else s.axis b := by
  split
  · next e =>
    subst e
    obtain ⟨hq, e⟩ | ⟨g, rest, hq, e⟩ := closeSegment_spec b c s
    · simp [e, Axis.closed, hq]
    · rw [e]
      dsimp only
      split <;> simp [Axis.closed, hq]
  · next hne => exact closeSegment_other a b c s hne

/-- The order in which the members' segments are closed does not matter to any axis. -/
theorem foldl_closeSegment_axis (c : Cause) (hn : going.Nodup) (s : State) (d : AxisId) :
    (going.foldl (fun s b => closeSegment b c s) s).axis d = if d ∈ going then (s.axis d).closed c else s.axis d := by
  induction going generalizing s with
  | nil => simp
  | cons b l ih =>
    obtain ⟨hb, hn⟩ := List.nodup_cons.1 hn
    rw [List.foldl_cons, ih hn, closeSegment_axis]
    by_cases e : d = b
    · simp [e, hb]
    · simp [e]

theorem foldl_closeSegment_joins (c : Cause) (l : List AxisId) (s : State) :
    (l.foldl (fun s b => closeSegment b c s) s).joins = s.joins := by
  induction l generalizing s with
  | nil => rfl
  | cons b l ih => rw [List.foldl_cons, ih, closeSegment_joins]

/-! ### The activations after them, where nothing else is queued (R60, R100) -/

theorem State.axis_mapAxes (s : State) (f : AxisId → Axis → Axis) (d : AxisId) :
    (s.mapAxes f).axis d = f d (s.axis d) := by
  simp [State.mapAxes, State.axis]

theorem queued_pos (h : (s.axis a).queue ≠ []) : 0 < s.queued := by
  rw [State.queued_eq_sum]
  exact (List.length_pos_iff.2 h).trans_le
    (Finset.single_le_sum (f := fun b => (s.axis b).queue.length) (fun _ _ => Nat.zero_le _) (Finset.mem_univ a))

theorem activate_empty {fuel : Nat} (hf : 0 < fuel) (hq : (s.axis a).queue = []) : activate fuel a s = becomeIdle a s := by
  obtain ⟨n, rfl⟩ := Nat.exists_eq_succ_of_ne_zero hf.ne'
  simp only [activate, hq]

theorem foldl_activate_empty {fuel : Nat} (hf : 0 < fuel) (hn : going.Nodup) (hq : ∀ b ∈ going, (s.axis b).queue = []) :
    going.foldl (fun s b => activate fuel b s) s = s.mapAxes fun b x =>
      if b ∈ going then { x with state := .idle, heldCause := .none, progress := none } else x :=
  foldl_axes_eq_mapAxes (f := fun _ x => { x with state := .idle, heldCause := .none, progress := none }) going hn s
    fun t b hb _ hx => by rw [activate_empty hf (by rw [hx]; exact hq b hb), becomeIdle, hx]

/-! ### The last arrival (R98, R100) -/

/-- From `s` to `t` the axes of `P` have been released, each with its JOIN ended and nothing else queued; no other axis, no
input, no output and nothing of the line has changed (R100, R101). -/
structure Releases (P : AxisId → Prop) (s t : State) : Prop where
  released : ∀ b, P b → ∀ g, (s.axis b).queue = [g] → t.axis b = (s.axis b).released g
  same : ∀ b, ¬ P b → t.axis b = s.axis b
  line : t.line = s.line
  inputs : t.inputs = s.inputs
  outputs : t.outputs = s.outputs

/-- The release of members with nothing else queued: the ends of all their JOINs, and then their activations (R100). -/
theorem release_releases {fuel : Nat} (hf : 0 < fuel) (hn : going.Nodup)
    (hq : ∀ b ∈ going, ∃ g, (s.axis b).queue = [g]) :
    let t := going.foldl (fun u b => activate fuel b u) (going.foldl (fun u b => closeSegment b .complete u) s)
    Releases (· ∈ going) s t ∧ t.joins = s.joins := by
  intro t
  have hclosed := foldl_closeSegment_axis .complete hn s
  have hframe : StopFrame s (going.foldl (fun u b => closeSegment b .complete u) s) :=
    foldl_stopFrame _ (fun u b => closeSegment_frame b .complete u) going s
  have ht : t = _ := foldl_activate_empty hf hn fun b hb => by
    obtain ⟨g, hg⟩ := hq b hb
    rw [hclosed, if_pos hb, Axis.closed_last _ hg]
  rw [ht]
  refine ⟨⟨fun b hb g hg => ?_, fun b hb => ?_, hframe.line, hframe.inputs, hframe.outputs⟩,
    foldl_closeSegment_joins .complete going s⟩
  · rw [State.axis_mapAxes, if_pos hb, hclosed, if_pos hb, Axis.closed_last _ hg, Axis.released]
  · rw [State.axis_mapAxes, if_neg hb, hclosed, if_neg hb]

/-- The activation of a JOIN that completes its meeting ends the JOINs of all its members and activates what is behind
them. -/
theorem activateHead_completes {token : Nat} {members : AxisMask} {book : List JoinRecord} {l : List AxisId}
    (hq : (s.axis a).queue = g :: rest) (hg : g.work = .join token members) (he : s.estopActive = false)
    (hal : s.alarmActive a = false) (harr : arrive a token members s = .released { s with joins := book } l)
    (hgo : going = l.filter fun b => b == a || (s.axis b).waitingOnJoin) :
    activateHead a s = going.foldl (fun u b => activate s.queued b u)
      (going.foldl (fun u b => closeSegment b .complete u) { s with joins := book }) := by
  have hcheck : activationCheck a g s = .arrives token members := by simp only [activationCheck, hg]
  rw [activateHead, activate, hgo]
  simp only [hq, he, hal, hcheck, harr, Bool.false_eq_true, if_false]
  rfl

/-- The last arrival at a meeting of any size, where its members have nothing else queued: the record is freed and every
member is released (R98, R100). -/
theorem activateHead_releases (hr : s.joins.find? (fun q => q.token == r.token) = some r)
    (hfull : r.arrived ||| axisBit a = r.members) (hq : (s.axis a).queue = [g]) (hg : g.work = .join r.token r.members)
    (hwaits : ∀ b, r.here b = true → (s.axis b).waitsIn r = true ∧ ∃ g, (s.axis b).queue = [g])
    (he : s.estopActive = false) (hal : s.alarmActive a = false) :
    Releases (fun b => r.here b = true ∨ b = a) s (activateHead a s) ∧
      (activateHead a s).joins = s.joins.filter fun q => q.token != r.token := by
  have harr : arrive a r.token r.members s =
      .released { s with joins := s.joins.filter fun q => q.token != r.token } (axesOf r.members) := by
    simp [arrive, hr, hfull]
  obtain ⟨going, hgo⟩ : ∃ l, l = (axesOf r.members).filter fun b => b == a || (s.axis b).waitingOnJoin := ⟨_, rfl⟩
  have hmem : ∀ b, b ∈ going ↔ r.here b = true ∨ b = a := by
    intro b
    rw [hgo, List.mem_filter, mem_axesOf, ← hfull, getLsbD_arrived, Bool.or_eq_true, decide_eq_true_eq, eq_comm (a := a)]
    refine and_iff_left_of_imp ?_
    rintro (hb | rfl)
    · simp [Axis.onJoin_of_waitsIn (hwaits b hb).1]
    · simp
  have hlast : ∀ b ∈ going, ∃ g, (s.axis b).queue = [g] := by
    intro b hb
    obtain hb | rfl := (hmem b).1 hb
    · exact (hwaits b hb).2
    · exact ⟨g, hq⟩
  have hn : going.Nodup := hgo ▸ (nodup_axesOf r.members).filter _
  have hfuel : 0 < s.queued := queued_pos (a := a) (by simp [hq])
  obtain ⟨hrel, hjoins⟩ :=
    release_releases (s := { s with joins := s.joins.filter fun q => q.token != r.token }) hfuel hn hlast
  rw [activateHead_completes hq hg he hal harr hgo]
  exact ⟨⟨fun b hb => hrel.released b ((hmem b).2 hb), fun b hb => hrel.same b (mt (hmem b).1 hb), hrel.line, hrel.inputs,
    hrel.outputs⟩, hjoins⟩

/-! ### The DWELL before the JOIN (R91) -/

/-- A DWELL that is due, of an axis that has arrived nowhere, leads on to what is behind it. -/
theorem execDwellEnd_due {p : Progress} {time : Nat} (hr : s.resetHeld = none) (hs : (s.axis a).state = .waiting)
    (hq : (s.axis a).queue = g :: rest) (hp : (s.axis a).progress = some p) (hg : g.work = .dwell time)
    (hd : p.deadline = some s.uptime) (haway : ∀ r ∈ s.joins, r.here a = false) :
    exec (.dwellEnd a) s = .next (activateHead a (closeSegment a .complete s)) := by
  have hnormal : Cause.complete.normal = true := rfl
  refine congrArg Host.Outcome.next ?_
  rw [exec_running hr, waitDue_dwell hs hq hp hg, if_pos (decide_eq_true hd), endSegment, if_pos hnormal,
    notifyJoins_quiet rfl (closeSegment_away _ haway)]

/-- Settles O54: the DWELL closes without touching the book, and the JOIN behind it is the last arrival. -/
theorem lastArrivalReleasesTheJoin : Obligations.LastArrivalReleasesTheJoin := by
  intro a b g ga gb p pb time token members r s hreset hne hm hsa hqa hpa hg hd hfa hga hsb hqb hpb hfb hgb hj hr hes hal
  have hhere (c : AxisId) : r.here c = true ↔ b = c := by
    rw [hr, JoinRecord.here, axisBit_getLsbD, decide_eq_true_eq]
  have haway : ∀ q ∈ s.joins, q.here a = false := by
    intro q hq
    obtain rfl : q = r := by simpa [hj] using hq
    exact Bool.eq_false_iff.2 fun h => hne ((hhere a).1 h).symm
  obtain ⟨u, hu⟩ : ∃ u, u = closeSegment a .complete s := ⟨_, rfl⟩
  have hexec : exec (.dwellEnd a) s = .next (activateHead a u) := hu ▸ execDwellEnd_due hreset hsa hqa hpa hg hd haway
  have hframe : StopFrame s u := hu ▸ closeSegment_frame a .complete s
  have huj : u.joins = [r] := by rw [hu, closeSegment_joins, hj]
  have hother (c : AxisId) (hc : c ≠ a) : u.axis c = s.axis c := by rw [hu, closeSegment_other a c _ s hc]
  have hself : u.axis a =
      { s.axis a with queue := [ga], lastEnd := some (s.endRecord a g [ga] p .complete), progress := none } := by
    rw [hu, closeSegment_eq _ hqa hpa, State.axis_setAxis_self, if_neg (by simp [hfa])]
  have hub : u.axis b = s.axis b := hother b hne.symm
  have hwaits (c : AxisId) (hc : r.here c = true) : (u.axis c).waitsIn r = true ∧ ∃ g, (u.axis c).queue = [g] := by
    obtain rfl := (hhere c).1 hc
    rw [hub]
    exact ⟨Axis.waitsIn_iff.2 ⟨hsb, gb, pb, Axis.active_of_busy (.inr (.inl hsb)) hqb hpb, by rw [hgb, hr]⟩, gb, hqb⟩
  obtain ⟨hrel, hjoins⟩ := activateHead_releases (s := u) (r := r) (by rw [huj]; simp) (by rw [hr, hm, BitVec.or_comm])
    (by rw [hself]) (by rw [hga, hr]) hwaits ((accepted_of_inputs hframe.inputs _).trans hes)
    ((alarmActive_of_inputs hframe.inputs a).trans hal)
  have hdone : (activateHead a u).axis a = (u.axis a).released ga := hrel.released a (.inr rfl) ga (by rw [hself])
  have hdoneb : (activateHead a u).axis b = (u.axis b).released gb :=
    hrel.released b (.inl ((hhere b).2 rfl)) gb (by rw [hub, hqb])
  rw [hself] at hdone
  rw [hub] at hdoneb
  have hkind {k : Segment} (hk : k.work = .join token members) : k.work.kind = .join := by rw [hk]; rfl
  exact ⟨_, _, _, hexec, by rw [hjoins, huj]; simp, hdone, hdoneb, rfl, hkind hga, rfl, rfl, hkind hgb, rfl,
    fun c hca hcb => (hrel.same c (not_or_intro (fun hc => hcb ((hhere c).1 hc).symm) hca)).trans (hother c hca),
    hrel.line.trans hframe.line, hrel.inputs.trans hframe.inputs, hrel.outputs.trans hframe.outputs⟩

end Sys2Proof.Machine
end

section
/-! SET_TRIGGER and READ_TRIGGER (R111, R115, R171): their verdicts in the words of the statement. -/

namespace Sys2Proof.Machine

variable {s : State} {h : Header} {f : TriggerFields}

/-! ### SET_TRIGGER (R111) -/

/-- The verdict on the bytes of a trigger: its fields first, then the state of its slot. -/
theorem orderSetTrigger_fieldBytes (i : Fin 24) (hb : f.action.fitsBytes) (armNow : Bool) (s : State) :
    orderSetTrigger ([BitVec.ofNat 8 i.val] ++ triggerFieldBytes (some f) ++ [flagByte armNow]) s =
      if f.action.inRange = false then .refused .badValue
      else if (s.trigger i).state = .armed then .refused .triggerArmed
      else .accepted (s.setTrigger i (.written f armNow)) [slotStateCode (TriggerSlot.written f armNow).state] := by
  obtain ⟨b0, b1, b2, b3, b4, b5, b6, b7, b8, b9, b10, hbytes, hread⟩ := readTriggerFields_bytes hb
  rw [hbytes]
  simp only [List.cons_append, List.nil_append, orderSetTrigger, readIndex_ofNat i (by decide), readFlag_flagByte, hread]
  cases f.action.inRange <;> rfl

theorem slotStateCode_written (armNow : Bool) :
    slotStateCode (TriggerSlot.written f armNow).state = if armNow then 2 else 1 := by cases armNow <;> rfl

theorem execSetTrigger_eq (i : Fin 24) (armNow : Bool) (ht : s.Takes h) (hf : s.Fresh h) (hb : f.action.fitsBytes) :
    exec (.setTrigger h ([BitVec.ofNat 8 i.val] ++ triggerFieldBytes (some f) ++ [flagByte armNow])) s = .next
      (if f.action.inRange = false then s.heard.answered h 0x40 3 []
      else if (s.trigger i).state = .armed then s.heard.answered h 0x40 8 []
      else (s.heard.setTrigger i (.written f armNow)).answered h 0x40 0 [if armNow then 2 else 1]) := by
  refine congrArg Host.Outcome.next ?_
  rw [takeOrder_answer _ ht hf (by decide), orderSetTrigger_fieldBytes i hb, slotStateCode_written]
  simp only [Verdict.answer_ite]
  rfl

/-! ### READ_TRIGGER (R115, R171) -/

theorem length_actionBytes (a : Action) : (actionBytes a).length = 4 := by cases a <;> rfl

theorem length_triggerFieldBytes (o : Option TriggerFields) : (triggerFieldBytes o).length = 11 := by
  cases o with
  | none => rfl
  | some f => simp [triggerFieldBytes, positionBytes, leBytes, length_actionBytes]

/-- The fields of a trigger are read back from the bytes that READ_TRIGGER gives. -/
theorem readTriggerFields_getD (hb : f.action.fitsBytes) (hr : f.action.inRange) :
    let b := triggerFieldBytes (some f)
    readTriggerFields (b.getD 0 0) (b.getD 1 0) (b.getD 2 0) (b.getD 3 0) (b.getD 4 0) (b.getD 5 0) (b.getD 6 0)
      (b.getD 7 0) (b.getD 8 0) (b.getD 9 0) (b.getD 10 0) = some f := by
  obtain ⟨b0, b1, b2, b3, b4, b5, b6, b7, b8, b9, b10, hbytes, hread⟩ := readTriggerFields_bytes hb
  rw [if_pos hr] at hread
  rw [hbytes]
  exact hread

theorem execReadTrigger_eq (i : Fin 24) (ht : s.Takes h) (hf : s.Fresh h) :
    exec (.readTrigger h [BitVec.ofNat 8 i.val]) s = .next (s.heard.answered h 0x44 0
      ([slotStateCode (s.trigger i).state] ++ leBytes 2 (s.trigger i).fireCount ++
        triggerFieldBytes (s.trigger i).fields)) := by
  refine congrArg Host.Outcome.next (takeOrder_accepted ht hf (by decide) ?_)
  simp only [orderReadTrigger, readIndex_ofNat i (by decide), orBadValue]
  rfl

/-- Settles O34: the verdict on a trigger's bytes, and the trigger read back from them. -/
theorem setTriggerWritesAndReadTriggerShowsTheSlot : Obligations.SetTriggerWritesAndReadTriggerShowsTheSlot := by
  refine ⟨fun _ i _ armNow _ ht hf hb => execSetTrigger_eq i armNow ht hf hb, fun _ i s ht hf =>
    ⟨_, length_triggerFieldBytes _, execReadTrigger_eq i ht hf, ?_⟩⟩
  cases (s.trigger i).fields with
  | none => rfl
  | some f => exact readTriggerFields_getD

end Sys2Proof.Machine
end

section
/-! ARM_TRIGGERS, DISARM_TRIGGERS and CLEAR_TRIGGERS (R112 to R114): the named slots treated one by one come to one change of
the named slots, and the mask of the slots that are ARMED is read bit by bit. -/

namespace Sys2Proof.Machine

variable {s : State} {h : Header} {m : SlotMask}

/-! ### Slot masks (R168) -/

theorem mem_slotsOf {i : Fin 24} : i ∈ slotsOf m ↔ m.getLsbD i.val = true := by
  simp [slotsOf, slotIds]

theorem nodup_slotsOf (m : SlotMask) : (slotsOf m).Nodup := (List.nodup_finRange 24).filter _

theorem any_slotsOf_iff {x : SlotState} : ((slotsOf m).any fun i => (s.trigger i).state == x) = true ↔
    ∃ i : Fin 24, m.getLsbD i.val ∧ (s.trigger i).state = x := by
  simp only [List.any_eq_true, mem_slotsOf, beq_iff_eq]

theorem readSlotMask_extract (m : SlotMask) :
    readSlotMask (m.extractLsb' 0 8) (m.extractLsb' 8 8) (m.extractLsb' 16 8) = m := readPosition_extract m

theorem slotMaskBytes_extract (m : SlotMask) :
    slotMaskBytes m = [m.extractLsb' 0 8, m.extractLsb' 8 8, m.extractLsb' 16 8] := positionBytes_extract m

/-- A mask to which the bits of a list are added one by one. -/
theorem getLsbD_foldl_twoPow (l : List (Fin 24)) (m : SlotMask) (i : Fin 24) :
    (l.foldl (fun m j => m ||| BitVec.twoPow 24 j.val) m).getLsbD i.val = (m.getLsbD i.val || decide (i ∈ l)) := by
  induction l generalizing m with
  | nil => simp
  | cons j l ih =>
    have hbit : (BitVec.twoPow 24 j.val).getLsbD i.val = decide (i = j) := by
      rw [BitVec.getLsbD_twoPow, decide_eq_true j.isLt, Bool.true_and]
      exact decide_eq_decide.2 ⟨fun e => Fin.ext e.symm, fun e => e ▸ rfl⟩
    rw [List.foldl_cons, ih, BitVec.getLsbD_or, hbit]
    simp [Bool.or_assoc]

theorem getLsbD_armedMask (s : State) (i : Fin 24) :
    (armedMask s).getLsbD i.val = decide ((s.trigger i).state = .armed) := by
  rw [armedMask, getLsbD_foldl_twoPow]
  simp [slotIds]

/-! ### Changes of the named slots -/

theorem State.trigger_mapSlots (s : State) (f : Fin 24 → TriggerSlot → TriggerSlot) (i : Fin 24) :
    (s.mapSlots f).trigger i = f i (s.trigger i) := by
  simp [State.mapSlots, State.trigger]

theorem mapSlots_congr {f g : Fin 24 → TriggerSlot → TriggerSlot} (hfg : ∀ i, f i (s.trigger i) = g i (s.trigger i)) :
    s.mapSlots f = s.mapSlots g := by
  unfold State.mapSlots
  simp only [hfg]

theorem State.mapSlots_setTrigger (s : State) (i : Fin 24) (x : TriggerSlot) (f : Fin 24 → TriggerSlot → TriggerSlot) :
    (s.setTrigger i x).mapSlots f = s.mapSlots fun j t => f j (if j = i then x else t) := by
  simp only [State.mapSlots, State.trigger_setTrigger]
  rfl

/-- Slots treated one by one, each on its own record, come to one change of the slots in the list. -/
theorem foldl_setTrigger_eq_mapSlots (f : TriggerSlot → TriggerSlot) (l : List (Fin 24)) (hn : l.Nodup) (s : State) :
    l.foldl (fun s i => s.setTrigger i (f (s.trigger i))) s = s.mapSlots fun i t => if i ∈ l then f t else t := by
  induction l generalizing s with
  | nil => simp [State.mapSlots, State.trigger]
  | cons i l ih =>
    obtain ⟨hi, hn⟩ := List.nodup_cons.1 hn
    rw [List.foldl_cons, ih hn, State.mapSlots_setTrigger]
    refine mapSlots_congr fun j => ?_
    by_cases e : j = i
    · simp [e, hi]
    · simp [e]

theorem changeSlots_eq (f : SlotState → SlotState) (m : SlotMask) (s : State) :
    changeSlots f m s = s.mapSlots fun i t => if m.getLsbD i.val then { t with state := f t.state } else t := by
  refine (foldl_setTrigger_eq_mapSlots (fun t => { t with state := f t.state }) _ (nodup_slotsOf m) s).trans ?_
  simp only [mem_slotsOf]

/-- Every named slot ARMED (R112). -/
def State.slotsArmed (s : State) (m : SlotMask) : State :=
  s.mapSlots fun i t => if m.getLsbD i.val then { t with state := .armed } else t

/-- Every named ARMED slot DISARMED (R113). -/
def State.slotsDisarmed (s : State) (m : SlotMask) : State :=
  s.mapSlots fun i t => if m.getLsbD i.val ∧ t.state = .armed then { t with state := .disarmed } else t

/-- Every named slot FREE (R114). -/
def State.slotsCleared (s : State) (m : SlotMask) : State :=
  s.mapSlots fun i t => if m.getLsbD i.val then { state := .free, fields := none, fireCount := 0 } else t

theorem changeSlots_armed (hn : ¬ ∃ i : Fin 24, m.getLsbD i.val ∧ (s.trigger i).state = .free) :
    changeSlots armed m s = s.slotsArmed m := by
  rw [changeSlots_eq]
  refine mapSlots_congr fun i => ?_
  split
  · next hi =>
    have hs : (s.trigger i).state ≠ .free := fun hs => hn ⟨i, hi, hs⟩
    have harmed : armed (s.trigger i).state = .armed := by cases e : (s.trigger i).state <;> simp_all [armed]
    rw [harmed]
  · rfl

theorem changeSlots_disarmed (m : SlotMask) (s : State) : changeSlots disarmed m s = s.slotsDisarmed m := by
  have hkeeps : ∀ t : TriggerSlot, t.state ≠ .armed → disarmed t.state = t.state := fun t => by
    cases t.state <;> simp [disarmed]
  rw [changeSlots_eq]
  refine mapSlots_congr fun i => ?_
  by_cases hs : (s.trigger i).state = .armed
  · simp [hs, disarmed]
  · simp [hs, hkeeps _ hs]

theorem foldl_reset_eq (m : SlotMask) (s : State) :
    (slotsOf m).foldl (fun s i => s.setTrigger i .reset) s = s.slotsCleared m := by
  refine (foldl_setTrigger_eq_mapSlots (fun _ => .reset) _ (nodup_slotsOf m) s).trans ?_
  simp only [mem_slotsOf]
  rfl

/-! ### The slots ARMED afterwards -/

theorem getLsbD_armedMask_slotsArmed (m : SlotMask) (s : State) (i : Fin 24) :
    (armedMask (s.slotsArmed m)).getLsbD i.val = decide (m.getLsbD i.val = true ∨ (s.trigger i).state = .armed) := by
  rw [getLsbD_armedMask, State.slotsArmed, State.trigger_mapSlots]
  cases m.getLsbD i.val <;> simp

theorem getLsbD_armedMask_slotsDisarmed (m : SlotMask) (s : State) (i : Fin 24) :
    (armedMask (s.slotsDisarmed m)).getLsbD i.val = decide (m.getLsbD i.val = false ∧ (s.trigger i).state = .armed) := by
  rw [getLsbD_armedMask, State.slotsDisarmed, State.trigger_mapSlots]
  cases m.getLsbD i.val <;> by_cases hs : (s.trigger i).state = .armed <;> simp [hs]

theorem getLsbD_armedMask_slotsCleared (m : SlotMask) (s : State) (i : Fin 24) :
    (armedMask (s.slotsCleared m)).getLsbD i.val = decide (m.getLsbD i.val = false ∧ (s.trigger i).state = .armed) := by
  rw [getLsbD_armedMask, State.slotsCleared, State.trigger_mapSlots]
  cases m.getLsbD i.val <;> simp

/-! ### The three orders -/

theorem execArmTriggers_eq (m : SlotMask) (ht : s.Takes h) (hf : s.Fresh h) :
    exec (.armTriggers h [m.extractLsb' 0 8, m.extractLsb' 8 8, m.extractLsb' 16 8]) s = .next
      (if ∃ i : Fin 24, m.getLsbD i.val ∧ (s.trigger i).state = .free then s.heard.answered h 0x41 9 []
      else (s.heard.slotsArmed m).answered h 0x41 0 (slotMaskBytes (armedMask (s.heard.slotsArmed m)))) := by
  refine congrArg Host.Outcome.next ?_
  rw [takeOrder_answer _ ht hf (by decide)]
  simp only [orderArmTriggers, readSlotMask_extract, any_slotsOf_iff, Verdict.answer_ite]
  split
  · next hfree => exact (if_pos hfree).symm
  · next hfree => rw [changeSlots_armed hfree]; exact (if_neg hfree).symm

theorem execDisarmTriggers_eq (m : SlotMask) (ht : s.Takes h) (hf : s.Fresh h) :
    exec (.disarmTriggers h [m.extractLsb' 0 8, m.extractLsb' 8 8, m.extractLsb' 16 8]) s = .next
      ((s.heard.slotsDisarmed m).answered h 0x42 0 (slotMaskBytes (armedMask (s.heard.slotsDisarmed m)))) := by
  refine congrArg Host.Outcome.next (takeOrder_accepted ht hf (by decide) ?_)
  simp only [orderDisarmTriggers, readSlotMask_extract, changeSlots_disarmed]

theorem execClearTriggers_eq (m : SlotMask) (ht : s.Takes h) (hf : s.Fresh h) :
    exec (.clearTriggers h [m.extractLsb' 0 8, m.extractLsb' 8 8, m.extractLsb' 16 8]) s = .next
      (if ∃ i : Fin 24, m.getLsbD i.val ∧ (s.trigger i).state = .armed then s.heard.answered h 0x43 8 []
      else (s.heard.slotsCleared m).answered h 0x43 0 (slotMaskBytes (armedMask (s.heard.slotsCleared m)))) := by
  refine congrArg Host.Outcome.next ?_
  rw [takeOrder_answer _ ht hf (by decide)]
  simp only [orderClearTriggers, readSlotMask_extract, any_slotsOf_iff, foldl_reset_eq, Verdict.answer_ite]
  rfl

/-- Settles O35: the named slots treated one by one, and the mask of those ARMED afterwards. -/
theorem triggerMasksActOnNamedSlots : Obligations.TriggerMasksActOnNamedSlots := by
  intro h m s ht hf bytes
  refine ⟨⟨armedMask (s.heard.slotsArmed m), ?_, getLsbD_armedMask_slotsArmed m s.heard⟩,
    ⟨armedMask (s.heard.slotsDisarmed m), ?_, getLsbD_armedMask_slotsDisarmed m s.heard⟩,
    ⟨armedMask (s.heard.slotsCleared m), ?_, getLsbD_armedMask_slotsCleared m s.heard⟩⟩
  · rw [← slotMaskBytes_extract]; exact execArmTriggers_eq m ht hf
  · rw [← slotMaskBytes_extract]; exact execDisarmTriggers_eq m ht hf
  · rw [← slotMaskBytes_extract]; exact execClearTriggers_eq m ht hf

end Sys2Proof.Machine
end

section
/-! The report queue, the trigger slots and the PWM channels (O56): what keeps each of them sound, and with them what every
elementary change of the engines keeps. -/

namespace Sys2Proof.Machine

variable {s t : State}

/-! ### The report queue (R145, R146) -/

theorem ReportQueue.sound_iff {q : ReportQueue} : q.sound = true ↔
    q.records.length ≤ 32 ∧ numbersEndAt q.records.reverse q.nextNumber = true ∧ q.dropped ≤ 255 ∧
      ∀ r ∈ q.records, r.lostBefore ≤ 255 := by
  simp only [ReportQueue.sound, Bool.and_eq_true, decide_eq_true_eq, List.all_eq_true, and_assoc]

/-- Consecutive numbers stay consecutive as records leave at the head, which the tail's reading comes to last. -/
theorem numbersEndAt_of_append {l m : List Report} {n : Byte} (h : numbersEndAt (l ++ m) n = true) :
    numbersEndAt l n = true := by
  induction l generalizing n with
  | nil => rfl
  | cons r l ih =>
    rw [List.cons_append, numbersEndAt, Bool.and_eq_true] at h
    rw [numbersEndAt, Bool.and_eq_true]
    exact ⟨h.1, ih h.2⟩

theorem ReportQueue.sound_enter {q : ReportQueue} (h : q.sound = true) (now : Uptime) (b : ReportBody) :
    (q.enter now b).sound = true := by
  obtain ⟨hlen, hnum, hdrop, hlost⟩ := ReportQueue.sound_iff.1 h
  unfold ReportQueue.enter
  split
  · refine ReportQueue.sound_iff.2 ⟨?_, ?_, Nat.zero_le _, fun r hr => ?_⟩
    · rw [List.length_append, List.length_singleton]
      omega
    · rw [List.reverse_append, List.reverse_singleton, List.singleton_append, numbersEndAt, add_sub_cancel_right, hnum]
      simp
    · obtain hr | hr := List.mem_append.1 hr
      · exact hlost r hr
      · rw [List.mem_singleton.1 hr]
        exact hdrop
  · exact ReportQueue.sound_iff.2 ⟨hlen, hnum, addSaturating_le hdrop, hlost⟩

/-- An acknowledged record leaves the head (R148). -/
theorem ReportQueue.sound_tail {q : ReportQueue} {r : Report} {rest : List Report} (h : q.sound = true)
    (hq : q.records = r :: rest) : ReportQueue.sound { q with records := rest } = true := by
  obtain ⟨hlen, hnum, hdrop, hlost⟩ := ReportQueue.sound_iff.1 h
  rw [hq, List.length_cons] at hlen
  rw [hq, List.reverse_cons] at hnum
  refine ReportQueue.sound_iff.2 ⟨by dsimp only; omega, numbersEndAt_of_append hnum, hdrop, fun x hx => hlost x ?_⟩
  rw [hq]
  exact List.mem_cons_of_mem r hx

/-! ### Trigger slots (R109, R110) -/

theorem TriggerSlot.sound_iff {t : TriggerSlot} : t.sound = true ↔
    (t.fields = none ∧ t.state = .free ∧ t.fireCount = 0) ∨
      ∃ f, t.fields = some f ∧ t.state ≠ .free ∧ t.fireCount ≤ 65535 ∧ f.action.inRange = true := by
  unfold TriggerSlot.sound
  cases t.fields <;> simp [and_assoc]

theorem TriggerSlot.sound_some {t : TriggerSlot} {f : TriggerFields} (h : t.sound = true) (hf : t.fields = some f) :
    t.state ≠ .free ∧ t.fireCount ≤ 65535 ∧ f.action.inRange = true := by
  obtain ⟨hn, -⟩ | ⟨f', hf', h⟩ := TriggerSlot.sound_iff.1 h
  · rw [hn] at hf
    cases hf
  · rw [hf'] at hf
    cases hf
    exact h

/-- A slot stays sound in another state that is FREE exactly if it was. -/
theorem TriggerSlot.sound_setState {t : TriggerSlot} {x : SlotState} (h : t.sound = true)
    (hx : x = .free ↔ t.state = .free) : TriggerSlot.sound { t with state := x } = true := by
  obtain ⟨hn, hs, hc⟩ | ⟨f, hf, hs, hc⟩ := TriggerSlot.sound_iff.1 h
  · exact TriggerSlot.sound_iff.2 (.inl ⟨hn, hx.2 hs, hc⟩)
  · exact TriggerSlot.sound_iff.2 (.inr ⟨f, hf, fun e => hs (hx.1 e), hc⟩)

theorem TriggerSlot.sound_fired {t : TriggerSlot} {f : TriggerFields} (h : t.sound = true) (hf : t.fields = some f) :
    (t.fired f).sound = true := by
  obtain ⟨hs, hc, hr⟩ := TriggerSlot.sound_some h hf
  refine TriggerSlot.sound_iff.2 (.inr ⟨f, hf, ?_, addSaturating_le hc, hr⟩)
  unfold TriggerSlot.fired
  split
  · exact SlotState.noConfusion
  · exact hs

theorem TriggerSlot.sound_rearmed {t : TriggerSlot} (h : t.sound = true) : t.rearmed.sound = true := by
  unfold TriggerSlot.rearmed
  split
  · next hs =>
    refine TriggerSlot.sound_setState h ⟨fun e => (nomatch e), fun e => ?_⟩
    simp [e] at hs
  · exact h

theorem TriggerSlot.sound_written {f : TriggerFields} (h : f.action.inRange = true) (armNow : Bool) :
    (TriggerSlot.written f armNow).sound = true :=
  TriggerSlot.sound_iff.2 (.inr ⟨f, rfl, by cases armNow <;> exact SlotState.noConfusion, Nat.zero_le _, h⟩)

/-! ### PWM channels (R129 to R132) -/

/-- A period and a duty in their ranges, the duty at or under the period. -/
def PwmSetting.InRange (r : PwmSetting) : Prop := 20 ≤ r.period ∧ r.period ≤ 65535 ∧ r.duty ≤ r.period

/-- A record that waits to become active: its duty may be above its period, to which it will be clamped (R130, R132). -/
def PwmSetting.MayWait (r : PwmSetting) : Prop := 20 ≤ r.period ∧ r.period ≤ 65535 ∧ r.duty ≤ 65535

theorem PwmSetting.InRange.mayWait {r : PwmSetting} (h : r.InRange) : r.MayWait :=
  ⟨h.1, h.2.1, h.2.2.trans h.2.1⟩

theorem PwmSetting.MayWait.clamped {r : PwmSetting} (h : r.MayWait) : r.clamped.InRange :=
  ⟨h.1, h.2.1, min_le_right _ _⟩

theorem PwmChannel.sound_iff {c : PwmChannel} : c.sound = true ↔
    c.active.InRange ∧ (∀ r, c.pending = some r → r.MayWait ∧ c.enabled = true) ∧
      (c.pinActive = true → c.enabled = true ∧ 0 < c.active.duty) := by
  unfold PwmChannel.sound PwmSetting.InRange PwmSetting.MayWait
  cases c.pending <;> cases c.enabled <;> cases c.pinActive <;> simp [and_assoc]

theorem PwmChannel.sound_boundary {c : PwmChannel} (h : c.sound = true) (he : c.enabled = true) :
    c.boundary.sound = true := by
  obtain ⟨hactive, hpending, -⟩ := PwmChannel.sound_iff.1 h
  refine PwmChannel.sound_iff.2 ⟨?_, fun r hr => (nomatch hr), fun hpin => ⟨he, of_decide_eq_true hpin⟩⟩
  unfold PwmChannel.boundary
  dsimp only
  split
  · next r hr => exact (hpending r hr).1.clamped
  · exact hactive

theorem PwmChannel.sound_disabled {c : PwmChannel} (h : c.sound = true) : c.disabled.sound = true :=
  PwmChannel.sound_iff.2 ⟨(PwmChannel.sound_iff.1 h).1, fun _ hr => (nomatch hr), fun hpin => (nomatch hpin)⟩

theorem PwmChannel.sound_enableWith {c : PwmChannel} {r : PwmSetting} (h : c.sound = true) (hr : r.InRange) :
    (c.enableWith r).sound = true := by
  obtain ⟨hactive, -, hpin⟩ := PwmChannel.sound_iff.1 h
  unfold PwmChannel.enableWith
  split
  · next he =>
    refine PwmChannel.sound_iff.2 ⟨hactive, ?_, hpin⟩
    rintro _ ⟨⟩
    exact ⟨hr.mayWait, he⟩
  · exact PwmChannel.sound_iff.2 ⟨hr.mayWait.clamped, fun _ e => (nomatch e), fun e => ⟨rfl, of_decide_eq_true e⟩⟩

theorem PwmChannel.sound_set {c : PwmChannel} {r : PwmSetting} (h : c.sound = true) (hr : r.InRange) (enable : Bool) :
    (c.set enable r).sound = true := by
  unfold PwmChannel.set
  split
  · exact sound_enableWith h hr
  · split
    · exact sound_disabled h
    · exact h

theorem PwmChannel.sound_writeDuty {c : PwmChannel} {d : Nat} (h : c.sound = true) (hd : d ≤ 65535) :
    (c.writeDuty d).sound = true := by
  obtain ⟨hactive, hpending, hpin⟩ := PwmChannel.sound_iff.1 h
  have ⟨hmin, hmax, _⟩ := hactive
  unfold PwmChannel.writeDuty
  split
  · next he =>
    split
    · next r hr =>
      obtain ⟨⟨hrmin, hrmax, -⟩, -⟩ := hpending r hr
      refine PwmChannel.sound_iff.2 ⟨hactive, ?_, hpin⟩
      rintro _ ⟨⟩
      exact ⟨⟨hrmin, hrmax, hd⟩, he⟩
    · refine PwmChannel.sound_iff.2 ⟨hactive, ?_, hpin⟩
      rintro _ ⟨⟩
      exact ⟨⟨hmin, hmax, hd⟩, he⟩
  · next he =>
    exact PwmChannel.sound_iff.2 ⟨⟨hmin, hmax, min_le_right _ _⟩, hpending, fun e => absurd (hpin e).1 he⟩

theorem PwmChannel.sound_atLoss {c : PwmChannel} (h : c.sound = true) : c.atLoss.sound = true := by
  unfold PwmChannel.atLoss
  split
  · split
    · exact sound_disabled h
    · exact h
  · exact h

theorem PwmChannel.sound_dutyEnd {c : PwmChannel} (h : c.sound = true) :
    PwmChannel.sound { c with pinActive := false } = true := by
  obtain ⟨hactive, hpending, -⟩ := PwmChannel.sound_iff.1 h
  exact PwmChannel.sound_iff.2 ⟨hactive, hpending, fun hpin => (nomatch hpin)⟩

/-! ### The three together -/

/-- The report queue, the trigger slots and the PWM channels are as their rules say. -/
structure TablesSound (s : State) : Prop where
  reports : s.ReportsSound
  triggers : s.TriggersSound
  channels : s.ChannelsSound

theorem TablesSound.of_eq (h : TablesSound s) (hr : t.reports = s.reports) (ht : t.triggers = s.triggers)
    (hc : t.pwm = s.pwm) : TablesSound t where
  reports := by rw [State.ReportsSound, hr]; exact h.reports
  triggers i := by rw [State.trigger, ht]; exact h.triggers i
  channels c := by rw [State.channel, hc]; exact h.channels c

theorem TablesSound.setReports (h : TablesSound s) {q : ReportQueue} (hq : q.sound = true) :
    TablesSound { s with reports := q } := ⟨hq, h.triggers, h.channels⟩

theorem TablesSound.setTriggers (h : TablesSound s) {v : Vector TriggerSlot 24} (hv : ∀ i : Fin 24, v[i].sound = true) :
    TablesSound { s with triggers := v } := ⟨h.reports, hv, h.channels⟩

theorem TablesSound.setTrigger (h : TablesSound s) (i : Fin 24) {x : TriggerSlot} (hx : x.sound = true) :
    TablesSound (s.setTrigger i x) := by
  refine ⟨h.reports, fun j => ?_, h.channels⟩
  rw [State.trigger_setTrigger]
  split
  · exact hx
  · exact h.triggers j

theorem TablesSound.mapSlots (h : TablesSound s) {f : Fin 24 → TriggerSlot → TriggerSlot}
    (hf : ∀ i, (f i (s.trigger i)).sound = true) : TablesSound (s.mapSlots f) := by
  refine h.setTriggers fun i => ?_
  rw [Fin.getElem_fin, Vector.getElem_ofFn]
  exact hf i

theorem TablesSound.setChannel (h : TablesSound s) (c : Fin 2) {x : PwmChannel} (hx : x.sound = true) :
    TablesSound (s.setChannel c x) := by
  refine ⟨h.reports, h.triggers, fun d => ?_⟩
  rw [State.channel_setChannel]
  split
  · exact hx
  · exact h.channels d

theorem foldl_tablesSound {α : Type} (f : State → α → State) (hf : ∀ s x, TablesSound s → TablesSound (f s x))
    (l : List α) (h : TablesSound s) : TablesSound (l.foldl f s) :=
  List.foldlRecOn l f h fun u h x _ => hf u x h

theorem admitReport_tablesSound (b : ReportBody) (h : TablesSound s) : TablesSound (admitReport b s) :=
  h.setReports (ReportQueue.sound_enter h.reports _ b)

/-- An elementary change of the engines keeps reports, slots and channels sound: the duty that a trigger writes is in the
range of its action (R110, R132). -/
theorem Move.tablesSound (hm : Move s t) (h : TablesSound s) : TablesSound t := by
  cases hm with
  | axis | book | output | line => exact h.of_eq rfl rfl rfl
  | input i r => exact h.of_eq (State.setInput_reports s i r) (State.setInput_triggers s i r) (State.setInput_pwm s i r)
  | report b => exact admitReport_tablesSound b h
  | fired i f hf => exact h.setTrigger i (TriggerSlot.sound_fired (h.triggers i) hf)
  | armed i =>
    rw [armSlot_eq]
    split
    · next hs =>
      have hrearmed := TriggerSlot.sound_rearmed (h.triggers i)
      rw [TriggerSlot.rearmed, if_pos hs] at hrearmed
      exact h.setTrigger i hrearmed
    · exact h
  | duty c d hd =>
    obtain ⟨i, f, hf, haction⟩ := hd
    obtain ⟨-, -, hr⟩ := TriggerSlot.sound_some (h.triggers i) hf
    rw [haction] at hr
    exact h.setChannel c (PwmChannel.sound_writeDuty (h.channels c) (of_decide_eq_true hr))
  | channelLoss c => exact h.setChannel c (PwmChannel.sound_atLoss (h.channels c))

theorem Moves.tablesSound (hm : Moves s t) (h : TablesSound s) : TablesSound t := by
  induction hm with
  | refl => exact h
  | tail _ hm ih => exact hm.tablesSound ih

end Sys2Proof.Machine
end

section
/-! What the orders leave of the reports, the trigger slots and the PWM channels when they accept (O56): the fields they read
are in range, and whatever else they do is a run of elementary changes or another block's. -/

namespace Sys2Proof.Machine

variable {s t : State} {p : List Byte}

theorem le2_le (b0 b1 : Byte) : le2 b0 b1 ≤ 65535 := by
  have := b0.isLt
  have := b1.isLt
  unfold le2
  omega

/-- Whatever an order leaves that has read its fields. -/
theorem Verdict.All.orBadValue_of {P : State → Prop} {α : Type} {x : Option α} {f : α → Verdict}
    (h : ∀ y, x = some y → (f y).All P) : (Machine.orBadValue x f).All P := by
  cases x with
  | none => exact .refused _
  | some y => exact h y rfl

/-! ### The orders of the trigger table (R111 to R114) -/

/-- An action that the bytes of a SET_TRIGGER spell is in the ranges of R110. -/
theorem readAction_inRange {code a0 a1 a2 : Byte} {act : Action} (h : readAction code a0 a1 a2 = some act) :
    act.inRange = true := by
  unfold readAction at h
  simp only [Option.bind_eq_bind, Option.pure_def] at h
  split at h
  case h_1 | h_2 | h_6 =>
    simp only [Option.bind_eq_some_iff, Option.some.injEq] at h
    obtain ⟨-, -, -, -, rfl⟩ := h
    rfl
  case h_3 =>
    simp only [Option.bind_eq_some_iff, Option.some.injEq] at h
    obtain ⟨-, -, w, hw, rfl⟩ := h
    unfold readTime at hw
    split at hw
    · next hr =>
      obtain rfl := Option.some.inj hw
      exact decide_eq_true ⟨hr, le2_le a1 a2⟩
    · cases hw
  case h_4 =>
    simp only [Option.bind_eq_some_iff, Option.some.injEq] at h
    obtain ⟨-, -, rfl⟩ := h
    exact decide_eq_true (le2_le a1 a2)
  case h_5 =>
    simp only [Option.bind_eq_some_iff, Option.some.injEq] at h
    obtain ⟨-, -, -, -, -, -, rfl⟩ := h
    rfl
  case h_7 =>
    simp only [Option.bind_eq_some_iff, Option.some.injEq] at h
    obtain ⟨-, -, rfl⟩ := h
    rfl
  case h_8 => cases h

theorem readTriggerFields_inRange {axis p0 p1 p2 qualifier mode report code a0 a1 a2 : Byte} {f : TriggerFields}
    (h : readTriggerFields axis p0 p1 p2 qualifier mode report code a0 a1 a2 = some f) : f.action.inRange = true := by
  simp only [readTriggerFields, Option.bind_eq_bind, Option.bind_eq_some_iff, Option.pure_def, Option.some.injEq] at h
  obtain ⟨-, -, -, -, -, -, -, -, act, hact, rfl⟩ := h
  exact readAction_inRange hact

theorem changeSlots_tablesSound {f : SlotState → SlotState} (hf : ∀ x, f x = .free ↔ x = .free) (m : SlotMask)
    (h : TablesSound s) : TablesSound (changeSlots f m s) := by
  rw [changeSlots_eq]
  refine h.mapSlots fun i => ?_
  split
  · exact TriggerSlot.sound_setState (h.triggers i) (hf _)
  · exact h.triggers i

theorem slotsCleared_tablesSound (m : SlotMask) (h : TablesSound s) : TablesSound (s.slotsCleared m) := by
  refine h.mapSlots fun i => ?_
  split
  · rfl
  · exact h.triggers i

/-- The period and duty of a SET_PWM are in their ranges (R131). -/
theorem readPwmSetting_inRange {p0 p1 d0 d1 : Byte} {r : PwmSetting} (h : readPwmSetting p0 p1 d0 d1 = some r) :
    r.InRange := by
  unfold readPwmSetting at h
  split at h
  · cases h
  · next hr =>
    obtain rfl := Option.some.inj h
    rw [not_or, not_lt, not_lt] at hr
    exact ⟨hr.1, le2_le p0 p1, hr.2⟩

section
variable (h : TablesSound s)
include h

theorem orderSetTrigger_tablesSound : (orderSetTrigger p s).All TablesSound := by
  unfold orderSetTrigger
  split
  · refine .orBadValue_of fun y hy => .ite (.refused _) (.accepted (h.setTrigger _ (TriggerSlot.sound_written ?_ _)))
    simp only [Option.bind_eq_bind, Option.bind_eq_some_iff, Option.pure_def, Option.some.injEq] at hy
    obtain ⟨-, -, f, hfields, -, -, rfl⟩ := hy
    exact readTriggerFields_inRange hfields
  · exact .refused _

theorem orderArmTriggers_tablesSound : (orderArmTriggers p s).All TablesSound := by
  unfold orderArmTriggers
  split
  · exact .ite (.refused _) (.accepted (changeSlots_tablesSound (fun x => by cases x <;> decide) _ h))
  · exact .refused _

theorem orderDisarmTriggers_tablesSound : (orderDisarmTriggers p s).All TablesSound := by
  unfold orderDisarmTriggers
  split
  · exact .accepted (changeSlots_tablesSound (fun x => by cases x <;> decide) _ h)
  · exact .refused _

theorem orderClearTriggers_tablesSound : (orderClearTriggers p s).All TablesSound := by
  unfold orderClearTriggers
  split
  · refine .ite (.refused _) (.accepted ?_)
    rw [foldl_reset_eq]
    exact slotsCleared_tablesSound _ h
  · exact .refused _

theorem orderReadTrigger_tablesSound : (orderReadTrigger p s).All TablesSound := by
  unfold orderReadTrigger
  split
  · exact .orBadValue fun _ => .accepted h
  · exact .refused _

/-! ### The orders of the outputs and channels (R125 to R127, R131, R133) -/

theorem orderSetOutputs_tablesSound : (orderSetOutputs p s).All TablesSound := by
  unfold orderSetOutputs
  split
  · refine .ite (.accepted (foldl_tablesSound _ (fun u n h => ?_) _ h)) (.refused _)
    exact h.of_eq rfl rfl rfl
  · exact .refused _

theorem orderPulseOutput_tablesSound : (orderPulseOutput p s).All TablesSound := by
  unfold orderPulseOutput
  split
  · exact .orBadValue fun _ => .accepted (h.of_eq rfl rfl rfl)
  · exact .refused _

theorem orderSetOutputConfig_tablesSound : (orderSetOutputConfig p s).All TablesSound := by
  unfold orderSetOutputConfig
  split
  · refine .ite (.accepted (foldl_tablesSound _ (fun u c h => ?_) _ (foldl_tablesSound _ (fun u n h => ?_) _ h)))
      (.refused _)
    · exact h.setChannel c (h.channels c)
    · exact h.of_eq rfl rfl rfl
  · exact .refused _

theorem orderSetPwm_tablesSound : (orderSetPwm p s).All TablesSound := by
  unfold orderSetPwm
  split
  · refine .orBadValue_of fun y hy => .accepted (h.setChannel _ (PwmChannel.sound_set (h.channels _) ?_ _))
    simp only [Option.bind_eq_bind, Option.bind_eq_some_iff, Option.pure_def, Option.some.injEq] at hy
    obtain ⟨-, -, -, -, r, hr, rfl⟩ := hy
    exact readPwmSetting_inRange hr
  · exact .refused _

theorem orderGetPwm_tablesSound : (orderGetPwm p s).All TablesSound := by
  unfold orderGetPwm
  split
  · refine .orBadValue fun c => ?_
    dsimp only
    split
    · exact .accepted h
    · exact .accepted (h.of_eq rfl rfl rfl)
  · exact .refused _

/-! ### The orders of the axes, the segments and the inputs -/

theorem orderSetAxis_tablesSound : (orderSetAxis p s).All TablesSound := by
  unfold orderSetAxis
  split
  · exact .orBadValue fun _ => .ite (.refused _) (.ite (.refused _) (.ite (.refused _)
      (.accepted (h.of_eq rfl rfl rfl))))
  · exact .refused _

theorem orderGetAxis_tablesSound : (orderGetAxis p s).All TablesSound := by
  unfold orderGetAxis
  split
  · exact .orBadValue fun _ => .accepted h
  · exact .refused _

theorem orderEnable_tablesSound : (orderEnable p s).All TablesSound := by
  unfold orderEnable
  split
  · exact .orBadValue fun m => .ite (.refused _)
      (.accepted (Moves.tablesSound (foldl_moves _ (fun s a => enableAxis_moves a s) _ s) h))
  · exact .refused _

theorem orderDisable_tablesSound : (orderDisable p s).All TablesSound := by
  unfold orderDisable
  split
  · exact .orBadValue fun m => .ite (.refused _)
      (.accepted (Moves.tablesSound (foldl_moves _ (fun s a => disableAxis_moves a s) _ s) h))
  · exact .refused _

theorem orderSetPosition_tablesSound : (orderSetPosition p s).All TablesSound := by
  unfold orderSetPosition
  split
  · exact .orBadValue fun _ => .ite (.refused _) (.accepted (h.of_eq rfl rfl rfl))
  · exact .refused _

theorem orderGetAxisState_tablesSound : (orderGetAxisState p s).All TablesSound := by
  unfold orderGetAxisState
  split
  · exact .orBadValue fun _ => .accepted h
  · exact .refused _

theorem orderResume_tablesSound : (orderResume p s).All TablesSound := by
  unfold orderResume
  split
  · exact .orBadValue fun m => .ite (.refused _) (.ite (.refused _) (.accepted
      (Moves.tablesSound ((drawOrder_moves _ s).trans (resumeInOrder_moves _ _)) h)))
  · exact .refused _

theorem orderStop_tablesSound : (orderStop p s).All TablesSound := by
  unfold orderStop
  split
  · exact .orBadValue fun y => .accepted
      (Moves.tablesSound ((drawOrder_moves _ s).trans (stopInOrder_moves _ _ _ _)) h)
  · exact .refused _

theorem orderQueueSegment_tablesSound : (orderQueueSegment p s).All TablesSound := by
  have happend (a : AxisId) (g : Segment) : TablesSound (appendSegment a g s) := h.of_eq rfl rfl rfl
  unfold orderQueueSegment
  split
  · refine .orBadValue fun y => .ite (.refused _) (.ite (.refused _) (.accepted ?_))
    split
    · exact Moves.tablesSound (activateHead_moves _ _) (happend _ _)
    · exact happend _ _
  · exact .refused _

theorem orderFlushQueue_tablesSound : (orderFlushQueue p s).All TablesSound := by
  unfold orderFlushQueue
  split
  · exact .orBadValue fun m => .ite (.refused _)
      (.accepted (Moves.tablesSound (foldl_moves _ (fun s a => flushAxis_moves a s) _ s) h))
  · exact .refused _

theorem orderPeekQueue_tablesSound : (orderPeekQueue p s).All TablesSound := by
  unfold orderPeekQueue
  split
  · exact .orBadValue fun _ => .accepted h
  · exact .refused _

theorem setInput_tablesSound (i : InputId) (r : InputRecord) : TablesSound (s.setInput i r) :=
  h.of_eq (State.setInput_reports s i r) (State.setInput_triggers s i r) (State.setInput_pwm s i r)

theorem pinTakes_tablesSound (i : InputId) (high : Bool) : TablesSound (pinTakes i high s) :=
  Moves.tablesSound (filterRaw_moves i _) (setInput_tablesSound h i _)

theorem reconfigure_tablesSound (i : InputId) (changed high : Bool) : TablesSound (reconfigure i changed high s) := by
  unfold reconfigure
  extract_lets u
  have hu : TablesSound u := by
    unfold u
    split
    · exact Moves.tablesSound (restartFilter_moves i s) h
    · exact h
  split
  · exact hu
  · exact Moves.tablesSound (filterRaw_moves i _) (setInput_tablesSound hu i _)

theorem orderSetInputConfig_tablesSound : (orderSetInputConfig p s).All TablesSound := by
  unfold orderSetInputConfig
  refine .ite (.orBadValue fun c => .accepted ?_) (.refused _)
  exact applyInputConfig_keeps c s (h.of_eq rfl rfl rfl) (fun _ _ h => h.of_eq rfl rfl rfl)
    fun _ i _ _ h => reconfigure_tablesSound h i _ _

/-! ### The orders of the profiles and the line -/

theorem orderDefineProfile_tablesSound : (orderDefineProfile p s).All TablesSound := by
  unfold orderDefineProfile
  split
  · exact .ite (.refused _) (.orBadValue fun _ => .ite (.refused _) (.accepted (h.of_eq rfl rfl rfl)))
  · exact .refused _

theorem orderReadProfile_tablesSound : (orderReadProfile p s).All TablesSound := by
  unfold orderReadProfile
  split
  · exact .orBadValue fun _ => .accepted h
  · exact .refused _

theorem orderDropProfile_tablesSound : (orderDropProfile p s).All TablesSound := by
  unfold orderDropProfile
  split
  · exact .orBadValue fun _ => .ite (.refused _) (.accepted (h.of_eq rfl rfl rfl))
  · exact .refused _

theorem orderSetLink_tablesSound : (orderSetLink p s).All TablesSound := by
  unfold orderSetLink
  split
  · exact .orBadValue fun _ => .accepted ⟨h.reports, h.triggers, h.channels⟩
  · exact .refused _

theorem orderGetLinkStats_tablesSound : (orderGetLinkStats p s).All TablesSound := by
  unfold orderGetLinkStats
  split
  · refine .orBadValue fun c => .accepted ?_
    split
    · exact h.of_eq rfl rfl rfl
    · exact h
  · exact .refused _

theorem orderDiscardReports_tablesSound : (orderDiscardReports p s).All TablesSound :=
  .noParams (.accepted (h.setReports rfl))

end

end Sys2Proof.Machine
end

section
/-! Every command keeps the reports, the trigger slots and the PWM channels sound (O56): frames change the line beside what
their order leaves, a reset begins all three anew, and the other events are runs of elementary changes. -/

namespace Sys2Proof.Machine

variable {s t : State}

/-! ### Resets and frames (R155 to R162, R166) -/

theorem takeReset_tablesSound (c : ResetCause) (s : State) : TablesSound (takeReset c s) where
  reports := rfl
  triggers i := by
    rw [show (takeReset c s).trigger i = .reset from Vector.getElem_replicate _]
    rfl
  channels c' := by
    rw [show (takeReset c s).channel c' = .reset from Vector.getElem_replicate _]
    rfl

theorem completeReset_tablesSound (c : ResetCause) (h : TablesSound s) : TablesSound (completeReset c s) :=
  admitReport_tablesSound _ (h.of_eq rfl rfl rfl)

theorem resetNow_tablesSound (c : ResetCause) (s : State) : TablesSound (resetNow c s) :=
  completeReset_tablesSound c (takeReset_tablesSound c s)

theorem LineOnly.tablesSound (hl : LineOnly s t) (h : TablesSound s) : TablesSound t := by
  rw [hl.rest]
  exact h.of_eq rfl rfl rfl

/-- An operation that keeps reports, slots and channels sound. -/
def KeepsTables (f : State → State) : Prop := ∀ u, TablesSound u → TablesSound (f u)

theorem KeepsTables.whenRunning {f : State → State} (hf : KeepsTables f) : KeepsTables (whenRunning f) := by
  intro u h
  unfold Machine.whenRunning
  split
  · exact h
  · exact hf u h

/-- An event that acts under a condition. -/
theorem KeepsTables.ite {c : State → Bool} {f : State → State} (hf : KeepsTables f) :
    KeepsTables fun s => if c s then f s else s := by
  intro u h
  dsimp only
  split
  · exact hf u h
  · exact h

theorem KeepsTables.of_moves {f : State → State} (hf : ∀ u, Moves u (f u)) : KeepsTables f := fun u => (hf u).tablesSound

theorem KeepsTables.of_line {f : State → State} (hf : ∀ u, LineOnly u (f u)) : KeepsTables f := fun u => (hf u).tablesSound

theorem keepsTables_beginFrame : KeepsTables beginFrame := by
  intro u h
  obtain ⟨-, e⟩ | hl := beginFrame_cases u
  · rw [e]
    exact resetNow_tablesSound _ u
  · exact hl.tablesSound h

theorem KeepsTables.onFrame {f : State → State} (hf : KeepsTables f) : KeepsTables (onFrame f) := by
  intro u h
  obtain ⟨-, e⟩ | ⟨v, hl, e | e⟩ := onFrame_cases f u
  · rw [e]
    exact resetNow_tablesSound _ u
  · rw [e]
    exact hl.tablesSound h
  · rw [e]
    exact hf v (hl.tablesSound h)

/-- An order that keeps them when it accepts. -/
theorem KeepsTables.order {code : Byte} {heard restarts : Bool} {f : State → Verdict} {hd : Header}
    (hf : ∀ u, TablesSound u → (f u).All TablesSound) : KeepsTables (receiveOrder code heard restarts f hd) := by
  have heffect : KeepsTables (orderEffect code heard restarts f hd) := by
    intro u h
    obtain hl | ⟨v, w, r, hv, hw, hl⟩ := orderEffect_cases code heard restarts f hd u
    · exact hl.tablesSound h
    · exact hl.tablesSound (hf v (hv.tablesSound h) w r hw)
  exact heffect.onFrame

theorem KeepsTables.next {f : State → State} (hf : KeepsTables f)
    (hs : (Host.Outcome.next (f s) : Host.Outcome State Fault Refusal) = .next t) (h : TablesSound s) : TablesSound t :=
  Host.Outcome.next.inj hs ▸ hf s h

/-! ### The report queue's side of a POLL (R148) -/

theorem acknowledge_tablesSound (ack : Option Byte) (h : TablesSound s) : TablesSound (acknowledge ack s) := by
  unfold acknowledge
  split
  · next n r rest hq =>
    split
    · exact h.setReports (ReportQueue.sound_tail h.reports hq)
    · exact h
  · exact h

theorem keepsTables_poll (hd : Header) (ack : Option Byte) : KeepsTables fun s =>
    match addressee s.line hd.station with
    | .station => answerPoll ack (supervise s)
    | .broadcast => supervise s
    | .other => s := by
  intro u h
  have hs := (supervise_lineOnly u).tablesSound h
  dsimp only
  split
  · exact (acknowledge_tablesSound ack hs).of_eq rfl rfl rfl
  · exact hs
  · exact h

/-! ### Every command -/

theorem execRawChange_tablesSound {p : PinId} {high : Bool} (hs : exec (.rawChange p high) s = .next t)
    (h : TablesSound s) : TablesSound t := by
  obtain rfl := Host.Outcome.next.inj hs
  cases p with
  | input i =>
    dsimp only
    split
    · exact h
    · split
      · exact setInput_tablesSound h i _
      · exact pinTakes_tablesSound h i high
  | addressStrap | speedStrap => exact h.of_eq rfl rfl rfl

theorem exec_tablesSound {i : Instr} (hs : exec i s = .next t) (h : TablesSound s) : TablesSound t := by
  cases i with
  | identify hd p | getStatus hd p | restart hd p | getTime hd p | getIo hd p =>
    exact (KeepsTables.order fun u h => .noParams (.accepted h)).next hs h
  | getAxis hd p => exact (KeepsTables.order fun u => orderGetAxis_tablesSound).next hs h
  | getAxisState hd p => exact (KeepsTables.order fun u => orderGetAxisState_tablesSound).next hs h
  | peekQueue hd p => exact (KeepsTables.order fun u => orderPeekQueue_tablesSound).next hs h
  | readProfile hd p => exact (KeepsTables.order fun u => orderReadProfile_tablesSound).next hs h
  | readTrigger hd p => exact (KeepsTables.order fun u => orderReadTrigger_tablesSound).next hs h
  | discardReports hd p => exact (KeepsTables.order fun u => orderDiscardReports_tablesSound).next hs h
  | setLink hd p => exact (KeepsTables.order fun u => orderSetLink_tablesSound).next hs h
  | getLinkStats hd p => exact (KeepsTables.order fun u => orderGetLinkStats_tablesSound).next hs h
  | setAxis hd p => exact (KeepsTables.order fun u => orderSetAxis_tablesSound).next hs h
  | enable hd p => exact (KeepsTables.order fun u => orderEnable_tablesSound).next hs h
  | disable hd p => exact (KeepsTables.order fun u => orderDisable_tablesSound).next hs h
  | setPosition hd p => exact (KeepsTables.order fun u => orderSetPosition_tablesSound).next hs h
  | resume hd p => exact (KeepsTables.order fun u => orderResume_tablesSound).next hs h
  | stop hd p => exact (KeepsTables.order fun u => orderStop_tablesSound).next hs h
  | queueSegment hd p => exact (KeepsTables.order fun u => orderQueueSegment_tablesSound).next hs h
  | flushQueue hd p => exact (KeepsTables.order fun u => orderFlushQueue_tablesSound).next hs h
  | defineProfile hd p => exact (KeepsTables.order fun u => orderDefineProfile_tablesSound).next hs h
  | dropProfile hd p => exact (KeepsTables.order fun u => orderDropProfile_tablesSound).next hs h
  | setTrigger hd p => exact (KeepsTables.order fun u => orderSetTrigger_tablesSound).next hs h
  | armTriggers hd p => exact (KeepsTables.order fun u => orderArmTriggers_tablesSound).next hs h
  | disarmTriggers hd p => exact (KeepsTables.order fun u => orderDisarmTriggers_tablesSound).next hs h
  | clearTriggers hd p => exact (KeepsTables.order fun u => orderClearTriggers_tablesSound).next hs h
  | setOutputs hd p => exact (KeepsTables.order fun u => orderSetOutputs_tablesSound).next hs h
  | pulseOutput hd p => exact (KeepsTables.order fun u => orderPulseOutput_tablesSound).next hs h
  | setOutputConfig hd p => exact (KeepsTables.order fun u => orderSetOutputConfig_tablesSound).next hs h
  | setPwm hd p => exact (KeepsTables.order fun u => orderSetPwm_tablesSound).next hs h
  | getPwm hd p => exact (KeepsTables.order fun u => orderGetPwm_tablesSound).next hs h
  | setInputConfig hd p => exact (KeepsTables.order fun u => orderSetInputConfig_tablesSound).next hs h
  | unknownOrder hd p =>
    obtain rfl := Host.Outcome.next.inj hs
    split
    · exact KeepsTables.order (fun u _ => .refused _) s h
    · exact h
  | poll hd ack => exact (keepsTables_poll hd ack).onFrame.next hs h
  | ignoredFrame st c p =>
    refine (KeepsTables.of_line fun u => ?_).onFrame.next hs h
    split
    · split
      · exact supervise_lineOnly u
      · exact supervise_lineOnly u
      · exact .refl u
    · exact .refl u
  | checkFailure st c p checkA checkB =>
    obtain rfl := Host.Outcome.next.inj hs
    split
    · exact h
    · refine (KeepsTables.of_line fun u => ?_).onFrame s h
      exact ⟨rfl, rfl⟩
  | escapeError c =>
    obtain rfl := Host.Outcome.next.inj hs
    split
    · exact h
    · exact (abandonFrame_lineOnly _ _ s).tablesSound h
  | oversizeFrame len =>
    obtain rfl := Host.Outcome.next.inj hs
    split
    · exact (abandonFrame_lineOnly _ _ s).tablesSound h
    · exact h
  | openingByteAbandonment | gapAbandonment =>
    obtain rfl := Host.Outcome.next.inj hs
    exact (abandonFrame_lineOnly _ _ s).tablesSound h
  | replyStart =>
    refine (KeepsTables.of_line fun u => ?_).whenRunning.next hs h
    split
    · exact ⟨rfl, rfl⟩
    · exact .refl u
    · exact .refl u
  | replyEnd =>
    refine KeepsTables.next (KeepsTables.whenRunning fun u h => ?_) hs h
    split
    · split
      · exact resetNow_tablesSound _ u
      · exact h.of_eq rfl rfl rfl
    · exact h
    · exact h
  | replyAbandoned | newFrameBegins =>
    refine KeepsTables.next (KeepsTables.whenRunning fun u h => ?_) hs h
    split
    · exact keepsTables_beginFrame u h
    · exact h
  | powerOn high =>
    obtain rfl := Host.Outcome.next.inj hs
    split
    · exact takeReset_tablesSound _ s
    · exact resetNow_tablesSound _ s
  | resetPin => exact KeepsTables.next (KeepsTables.whenRunning fun u _ => takeReset_tablesSound _ u) hs h
  | resetComplete =>
    obtain rfl := Host.Outcome.next.inj hs
    split
    · exact completeReset_tablesSound _ h
    · exact h
  | tick =>
    refine KeepsTables.next (KeepsTables.whenRunning fun u h => ?_) hs h
    exact h.of_eq rfl rfl rfl
  | linkLossEvent => exact (KeepsTables.of_moves loseLink_moves).ite.whenRunning.next hs h
  | dwellEnd a | tailIntervalExpiry a => exact (KeepsTables.of_moves (endSegment_moves a _)).ite.whenRunning.next hs h
  | inputTimeout a => exact (KeepsTables.of_moves (endHeld_moves a _)).ite.whenRunning.next hs h
  | filterAcceptance j => exact (KeepsTables.of_moves (acceptRaw_moves j)).ite.whenRunning.next hs h
  | rawChange p high => exact execRawChange_tablesSound hs h
  | stepIssue a => exact (KeepsTables.of_moves (issueStep_moves a)).whenRunning.next hs h
  | stepPulseStart a => exact (KeepsTables.of_moves (pulseStart_moves a)).whenRunning.next hs h
  | stepPulseEnd a => exact (KeepsTables.of_moves (pulseEnd_moves a)).whenRunning.next hs h
  | stopWalkEnd a =>
    refine KeepsTables.next (KeepsTables.ite fun u h => ?_).whenRunning hs h
    split
    · exact Moves.tablesSound (endSegment_moves a _ u) h
    · exact h
  | pulseEnd n =>
    refine KeepsTables.next (KeepsTables.ite fun u h => ?_).whenRunning hs h
    exact h.of_eq rfl rfl rfl
  | periodBoundary c =>
    refine KeepsTables.next (KeepsTables.whenRunning fun u h => ?_) hs h
    split
    · next he => exact h.setChannel c (PwmChannel.sound_boundary (h.channels c) he)
    · exact h
  | pwmDutyEnd c =>
    exact KeepsTables.next
      (KeepsTables.ite fun u h => h.setChannel c (PwmChannel.sound_dutyEnd (h.channels c))).whenRunning hs h

/-- Settles O56: every command is a reset, a write whose fields its order has read in their ranges, or a run of elementary
changes, and each of these keeps the three sound. -/
theorem reportsTriggersAndChannelsStaySound : Obligations.ReportsTriggersAndChannelsStaySound := by
  intro s t ⟨hreports, htriggers, hchannels⟩ hstep
  obtain rfl | ⟨c, rest, he⟩ := step_cases hstep
  · exact ⟨hreports, htriggers, hchannels⟩
  · have ⟨hr, ht, hc⟩ := exec_tablesSound he ⟨hreports, htriggers, hchannels⟩
    exact ⟨hr, ht, hc⟩

end Sys2Proof.Machine
end

section
/-! The orders of the general outputs (R125 to R127): the named records treated one by one come to one change of the named
records, and the mask of their levels is read bit by bit. -/

namespace Sys2Proof.Machine

variable {s : State} {h : Header}

/-! ### A list of records changed one by one -/

/-- Records treated one by one, each on its own number and record, come to one change of those in the list. -/
theorem foldl_set_eq_ofFn {α : Type} {k : Nat} (f : Fin k → α → α) (l : List (Fin k)) (hn : l.Nodup) (v : Vector α k) :
    l.foldl (fun v i => v.set i (f i v[i])) v = Vector.ofFn fun i => if i ∈ l then f i v[i] else v[i] := by
  induction l generalizing v with
  | nil => simp
  | cons i l ih =>
    obtain ⟨hi, hn⟩ := List.nodup_cons.1 hn
    rw [List.foldl_cons, ih hn]
    refine congrArg Vector.ofFn (funext fun j => ?_)
    by_cases e : j = i
    · simp [e, hi]
    · have hij : i.val ≠ j.val := fun hv => e (Fin.ext hv.symm)
      simp [e, hij]

theorem foldl_setOutput_eq_mapOutputs (f : Fin 8 → OutputRecord → OutputRecord) (l : List (Fin 8)) (hn : l.Nodup)
    (s : State) :
    l.foldl (fun s n => s.setOutput n (f n (s.output n))) s = s.mapOutputs fun n o => if n ∈ l then f n o else o :=
  (List.foldl_hom (fun v => { s with outputs := v }) fun _ _ => rfl).trans
    (congrArg (fun v => { s with outputs := v }) (foldl_set_eq_ofFn f l hn s.outputs))

theorem foldl_setChannel_eq_mapChannels (f : Fin 2 → PwmChannel → PwmChannel) (l : List (Fin 2)) (hn : l.Nodup)
    (s : State) :
    l.foldl (fun s c => s.setChannel c (f c (s.channel c))) s = s.mapChannels fun c x => if c ∈ l then f c x else x :=
  (List.foldl_hom (fun v => { s with pwm := v }) fun _ _ => rfl).trans
    (congrArg (fun v => { s with pwm := v }) (foldl_set_eq_ofFn f l hn s.pwm))

theorem State.output_mapOutputs (s : State) (f : Fin 8 → OutputRecord → OutputRecord) (n : Fin 8) :
    (s.mapOutputs f).output n = f n (s.output n) := by
  simp [State.mapOutputs, State.output]

/-! ### Output masks and levels (R168) -/

theorem mem_outputIds (n : Fin 8) : n ∈ outputIds := List.mem_finRange n

theorem nodup_outputIds : outputIds.Nodup := List.nodup_finRange 8

theorem mem_outputsOf {m : Byte} {n : Fin 8} : n ∈ outputsOf m ↔ m.getLsbD n.val = true := by
  simp [outputsOf, mem_outputIds]

theorem nodup_outputsOf (m : Byte) : (outputsOf m).Nodup := nodup_outputIds.filter _

theorem getLsbD_flagByte (b : Bool) (n : Nat) : (flagByte b).getLsbD n = (decide (n = 0) && b) := by
  cases b <;> simp [flagByte, BitVec.getLsbD_one]

/-- The bit of a level and the bits above it do not meet. -/
theorem bitsByte_cons (b : Bool) (l : List Bool) : bitsByte (b :: l) = flagByte b ||| (bitsByte l <<< 1) := by
  rw [bitsByte]
  refine BitVec.add_eq_or_of_and_eq_zero _ _ (BitVec.eq_of_getLsbD_eq fun n _ => ?_)
  rw [BitVec.getLsbD_and, getLsbD_flagByte, BitVec.getLsbD_shiftLeft]
  cases n <;> simp

/-- Bit n of a byte of levels is the n-th level. -/
theorem getLsbD_bitsByte (l : List Bool) (n : Nat) (hn : n < 8) : (bitsByte l).getLsbD n = l.getD n false := by
  induction l generalizing n with
  | nil => simp [bitsByte]
  | cons b l ih =>
    rw [bitsByte_cons, BitVec.getLsbD_or, getLsbD_flagByte, BitVec.getLsbD_shiftLeft]
    cases n with
    | zero => simp
    | succ n => simp [hn, ih n (by omega)]

theorem getLsbD_outputLevels (s : State) (n : Fin 8) : (outputLevels s).getLsbD n.val = (s.output n).level := by
  rw [outputLevels, getLsbD_bitsByte _ _ n.isLt]
  simp [outputIds]

/-! ### SET_OUTPUTS and PULSE_OUTPUT (R126, R127) -/

/-- Each named output has its level, and its pulse timer is stopped (R126). -/
def State.outputsSet (s : State) (m levels : Byte) : State :=
  s.mapOutputs fun n o => if m.getLsbD n.val then { o with level := levels.getLsbD n.val, deadline := none } else o

theorem foldl_setLevel_eq (m levels : Byte) (s : State) :
    (outputsOf m).foldl (fun s n => setLevel n (levels.getLsbD n.val) s) s = s.outputsSet m levels := by
  refine (foldl_setOutput_eq_mapOutputs (fun n o => { o with level := levels.getLsbD n.val, deadline := none }) _
    (nodup_outputsOf m) s).trans ?_
  simp only [mem_outputsOf]
  rfl

theorem level_outputsSet (m levels : Byte) (s : State) (n : Fin 8) :
    ((s.outputsSet m levels).output n).level =
      if m.getLsbD n.val then levels.getLsbD n.val else (s.output n).level := by
  rw [State.outputsSet, State.output_mapOutputs]
  split <;> rfl

theorem execSetOutputs_eq (m levels : Byte) (ht : s.Takes h) (hf : s.Fresh h) :
    exec (.setOutputs h [m, levels]) s = .next
      (if levels &&& ~~~m = 0 then
        (s.heard.outputsSet m levels).answered h 0x50 0 [outputLevels (s.heard.outputsSet m levels)]
      else s.heard.answered h 0x50 3 []) := by
  refine congrArg Host.Outcome.next ?_
  rw [takeOrder_answer _ ht hf (by decide)]
  simp only [orderSetOutputs, foldl_setLevel_eq, Verdict.answer_ite]
  rfl

theorem execPulseOutput_eq (b : Byte) {w : Nat} (ht : s.Takes h) (hf : s.Fresh h) (hw : w < 65536) :
    exec (.pulseOutput h (b :: leBytes 2 w)) s = .next
      (if hb : b.toNat < 8 ∧ 1 ≤ w then
        (startPulse ⟨b.toNat, hb.1⟩ w s.heard).answered h 0x51 0 [flagByte (s.output ⟨b.toNat, hb.1⟩).deadline.isSome]
      else s.heard.answered h 0x51 3 []) := by
  refine congrArg Host.Outcome.next ?_
  rw [takeOrder_answer _ ht hf (by decide)]
  simp only [leBytes_two, orderPulseOutput, readTime_ofNat hw, readIndex]
  by_cases hb : b.toNat < 8
  · by_cases h1 : 1 ≤ w
    · rw [dif_pos hb, if_pos h1, dif_pos ⟨hb, h1⟩]; rfl
    · rw [if_neg h1, dif_pos hb, dif_neg fun hn => h1 hn.2]; rfl
  · rw [dif_neg hb, dif_neg fun hn => hb hn.1]; rfl

/-- Settles O36: the named outputs set one by one and their levels read back, and the verdict on a pulse's fields. -/
theorem setOutputsAndPulseOutputWriteTheLevels : Obligations.SetOutputsAndPulseOutputWriteTheLevels := by
  refine ⟨fun h m levels s ht hf => ?_, fun h b w s ht hf hw => execPulseOutput_eq b ht hf hw⟩
  have hexec := execSetOutputs_eq m levels ht hf
  split
  · next hsub =>
    exact ⟨outputLevels (s.heard.outputsSet m levels), hexec.trans (by rw [if_pos hsub]; rfl), fun n =>
      (getLsbD_outputLevels _ n).trans (level_outputsSet m levels s.heard n)⟩
  · next hsub => exact hexec.trans (by rw [if_neg hsub])

/-! ### SET_OUTPUT_CONFIG (R125, R169) -/

/-- The two bytes of link-loss levels are one word of two bits an output. -/
theorem lossLevelOf_extract (levels : BitVec 16) (n : Fin 8) :
    lossLevelOf (levels.extractLsb' 0 8) (levels.extractLsb' 8 8) n = readLossLevel (levels.extractLsb' (2 * n.val) 2) := by
  refine congrArg readLossLevel (BitVec.eq_of_getLsbD_eq fun i hi => ?_)
  split
  · next hn =>
    have hlow : 2 * n.val + i < 8 := by omega
    rw [Nat.mod_eq_of_lt hn]
    simp [hi, hlow]
  · next hn =>
    have hlow : 2 * (n.val % 4) + i < 8 := by omega
    have hpos : 8 + (2 * (n.val % 4) + i) = 2 * n.val + i := by omega
    simp [hi, hlow, hpos]

/-- Every two bits but 3 are a link-loss level (R169). -/
theorem readLossLevel_eq (v : BitVec 2) :
    readLossLevel v =
      if v = 3#2 then none else some (if v = 0#2 then .keep else if v = 1#2 then .active else .inactive) := by
  revert v; decide

theorem readLossLevel_isSome (v : BitVec 2) : (readLossLevel v).isSome = true ↔ v ≠ 3#2 := by
  rw [readLossLevel_eq]
  split <;> simp [*]

/-- The record of output n with the polarity and the link-loss level of the configuration (R125). -/
def OutputRecord.configured (polarity : Byte) (levels : BitVec 16) (n : Fin 8) (o : OutputRecord) : OutputRecord :=
  { o with
    activeLow := polarity.getLsbD n.val
    lossLevel := if levels.extractLsb' (2 * n.val) 2 = 0#2 then .keep
      else if levels.extractLsb' (2 * n.val) 2 = 1#2 then .active else .inactive }

/-- Every polarity, link-loss level and link-loss behaviour replaced (R125). -/
def State.outputsConfigured (s : State) (polarity : Byte) (levels : BitVec 16) (pwm : Byte) : State :=
  (s.mapOutputs (OutputRecord.configured polarity levels)).mapChannels fun c x =>
    { x with offOnLoss := pwm.getLsbD c.val }

theorem applyOutputConfig_extract (polarity : Byte) {levels : BitVec 16} (pwm : Byte) (s : State)
    (hl : ∀ n : Fin 8, levels.extractLsb' (2 * n.val) 2 ≠ 3#2) :
    applyOutputConfig polarity (levels.extractLsb' 0 8) (levels.extractLsb' 8 8) pwm s =
      s.outputsConfigured polarity levels pwm := by
  have houtputs := foldl_setOutput_eq_mapOutputs (OutputRecord.configured polarity levels) outputIds nodup_outputIds s
  have hchannels := foldl_setChannel_eq_mapChannels (fun c x => { x with offOnLoss := pwm.getLsbD c.val }) [0, 1]
    (by decide)
  have hboth : ∀ c : Fin 2, c ∈ [0, 1] := by decide
  simp only [mem_outputIds, hboth, if_true] at houtputs hchannels
  rw [State.outputsConfigured, ← houtputs, ← hchannels]
  simp only [applyOutputConfig, lossLevelOf_extract, readLossLevel_eq, hl, if_false, Option.getD_some,
    OutputRecord.configured]

theorem orderSetOutputConfig_extract (polarity : Byte) (levels : BitVec 16) (pwm : Byte) (s : State) :
    orderSetOutputConfig [polarity, levels.extractLsb' 0 8, levels.extractLsb' 8 8, pwm] s =
      if (∃ n : Fin 8, levels.extractLsb' (2 * n.val) 2 = 3#2) ∨ 4 ≤ pwm.toNat then .refused .badValue
      else .accepted (s.outputsConfigured polarity levels pwm) [] := by
  have hfields : ((outputIds.all fun n => (lossLevelOf (levels.extractLsb' 0 8) (levels.extractLsb' 8 8) n).isSome) &&
      decide (pwm.toNat < 4)) = true ↔ ¬((∃ n : Fin 8, levels.extractLsb' (2 * n.val) 2 = 3#2) ∨ 4 ≤ pwm.toNat) := by
    simp [lossLevelOf_extract, readLossLevel_isSome, mem_outputIds]
  simp only [orderSetOutputConfig, hfields, ite_not]
  split
  · rfl
  · next hin => rw [applyOutputConfig_extract polarity pwm s fun n hn => hin (.inl ⟨n, hn⟩)]

/-- Settles O37: the verdict on the configuration's bytes, answered. -/
theorem setOutputConfigReplacesTheConfiguration : Obligations.SetOutputConfigReplacesTheConfiguration := by
  intro h polarity levels pwm s ht hf
  refine congrArg Host.Outcome.next ?_
  rw [takeOrder_answer _ ht hf (by decide), orderSetOutputConfig_extract, Verdict.answer_ite]
  rfl

end Sys2Proof.Machine
end

section
/-! The PWM channels (R130, R131, R133): SET_PWM and GET_PWM, and with the tick and the output pulses the events that time
brings to the output block (R127, R142). -/

namespace Sys2Proof.Machine

variable {s : State} {h : Header}

/-! ### SET_PWM (R131) -/

theorem readPwmSetting_ofNat {period duty : Nat} (hp : period < 65536) (hd : duty < 65536) :
    readPwmSetting (BitVec.ofNat 8 period) (BitVec.ofNat 8 (period / 256)) (BitVec.ofNat 8 duty)
      (BitVec.ofNat 8 (duty / 256)) =
      if period < 20 ∨ period < duty then none else some { period := period, duty := duty } := by
  rw [readPwmSetting, le2_ofNat hp, le2_ofNat hd]

/-- A record whose duty is not above its period is not clamped. -/
theorem PwmSetting.clamped_of_le {r : PwmSetting} (hr : r.duty ≤ r.period) : r.clamped = r := by
  rw [PwmSetting.clamped, min_eq_left hr]

/-- What SET_PWM makes of a channel, by the enable flag and the channel's own (R131). -/
theorem PwmChannel.set_eq (x : PwmChannel) (enable : Bool) {r : PwmSetting} (hr : r.duty ≤ r.period) :
    x.set enable r =
      match enable, x.enabled with
      | true, false => { x with enabled := true, active := r, pending := none, pinActive := decide (0 < r.duty) }
      | true, true => { x with pending := some r }
      | false, true => { x with enabled := false, pending := none, pinActive := false }
      | false, false => x := by
  cases enable <;> cases he : x.enabled <;>
    simp [PwmChannel.set, PwmChannel.enableWith, PwmChannel.boundary, PwmChannel.disabled, PwmSetting.clamped_of_le hr, he]

theorem orderSetPwm_ofNat (c : Fin 2) (enable : Bool) {period duty : Nat} (hp : period < 65536) (hd : duty < 65536)
    (s : State) :
    orderSetPwm ([BitVec.ofNat 8 c.val, flagByte enable] ++ leBytes 2 period ++ leBytes 2 duty) s =
      if period < 20 ∨ period < duty then .refused .badValue
      else .accepted (s.setChannel c ((s.channel c).set enable { period := period, duty := duty })) [] := by
  simp only [leBytes_two, List.cons_append, List.nil_append, orderSetPwm, readIndex_ofNat c (by decide),
    readFlag_flagByte, readPwmSetting_ofNat hp hd]
  split <;> rfl

theorem execSetPwm_eq (c : Fin 2) (enable : Bool) {period duty : Nat} (ht : s.Takes h) (hf : s.Fresh h)
    (hp : period < 65536) (hd : duty < 65536) :
    exec (.setPwm h ([BitVec.ofNat 8 c.val, flagByte enable] ++ leBytes 2 period ++ leBytes 2 duty)) s = .next
      (if period < 20 ∨ period < duty then s.heard.answered h 0x53 3 []
      else (s.heard.setChannel c ((s.channel c).set enable { period := period, duty := duty })).answered h 0x53 0 []) := by
  refine congrArg Host.Outcome.next ?_
  rw [takeOrder_answer _ ht hf (by decide), orderSetPwm_ofNat c enable hp hd, Verdict.answer_ite]
  rfl

/-! ### GET_PWM (R133) -/

/-- GET_PWM of a channel with a pending record. -/
theorem execGetPwm_pending {c : Fin 2} {r : PwmSetting} (ht : s.Takes h) (hf : s.Fresh h)
    (hr : (s.channel c).pending = some r) :
    exec (.getPwm h [BitVec.ofNat 8 c.val]) s = .next (s.heard.answered h 0x54 0
      ([flagByte (s.channel c).enabled] ++ pwmBytes (s.channel c).active ++ [1] ++ pwmBytes r)) := by
  refine congrArg Host.Outcome.next (takeOrder_accepted ht hf (by decide) ?_)
  have hheard : (s.heard.channel c).pending = some r := hr
  simp only [orderGetPwm, readIndex_ofNat c (by decide), orBadValue, hheard]
  rfl

/-- The four free bytes that GET_PWM sends for an absent record (notes/assumptions/8.md). -/
def freeBytesFrom (k : Nat) : List Byte :=
  [Config.freeByte k, Config.freeByte (k + 1), Config.freeByte (k + 2), Config.freeByte (k + 3)]

/-- GET_PWM of a channel without a pending record. -/
theorem execGetPwm_absent {c : Fin 2} (ht : s.Takes h) (hf : s.Fresh h) (hr : (s.channel c).pending = none) :
    exec (.getPwm h [BitVec.ofNat 8 c.val]) s = .next ({ s.heard with freeCount := s.freeCount + 4 }.answered h 0x54 0
      ([flagByte (s.channel c).enabled] ++ pwmBytes (s.channel c).active ++ [0] ++ freeBytesFrom s.freeCount)) := by
  refine congrArg Host.Outcome.next (takeOrder_accepted ht hf (by decide) ?_)
  have hheard : (s.heard.channel c).pending = none := hr
  simp only [orderGetPwm, readIndex_ofNat c (by decide), orBadValue, hheard]
  rfl

/-- Settles O38: the verdict on a channel's bytes by the two enable flags, and the channel shown with its pending record or
with free bytes. -/
theorem setPwmWritesAndGetPwmShowsTheChannel : Obligations.SetPwmWritesAndGetPwmShowsTheChannel := by
  refine ⟨fun h c enable period duty s ht hf hp hd => ?_, fun h c s ht hf => ?_⟩
  · rw [execSetPwm_eq c enable ht hf hp hd]
    split
    · rfl
    · next hin =>
      exact congrArg (fun x => Host.Outcome.next ((s.heard.setChannel c x).answered h 0x53 0 []))
        (PwmChannel.set_eq _ enable (Nat.le_of_not_lt (not_or.1 hin).2))
  · cases hr : (s.channel c).pending with
    | some r =>
      refine ⟨pwmBytes r, s.freeCount, execGetPwm_pending ht hf hr, rfl, ?_⟩
      rintro _ ⟨⟩
      exact ⟨rfl, rfl⟩
    | none =>
      exact ⟨freeBytesFrom s.freeCount, _, execGetPwm_absent ht hf hr, rfl, fun _ hn => nomatch hn⟩

/-! ### The tick, the output pulses and the PWM periods (R127, R130, R142) -/

theorem execTick_eq (hr : s.resetHeld = none) : exec .tick s = .next { s with uptime := s.uptime + 1 } :=
  congrArg Host.Outcome.next (exec_running hr)

theorem execPulseEnd_eq (n : Fin 8) (hr : s.resetHeld = none) :
    exec (.pulseEnd n) s = .next (if (s.output n).deadline = some s.uptime then setLevel n false s else s) := by
  refine congrArg Host.Outcome.next ((exec_running hr).trans ?_)
  simp only [State.due, beq_iff_eq]

/-- A period boundary by the channel's pending record (R130). -/
theorem PwmChannel.boundary_eq (x : PwmChannel) :
    x.boundary =
      match x.pending with
      | some r =>
        { x with
          active := { period := r.period, duty := min r.duty r.period }, pending := none
          pinActive := decide (0 < min r.duty r.period) }
      | none => { x with pinActive := decide (0 < x.active.duty) } := by
  cases hp : x.pending <;> simp [PwmChannel.boundary, PwmSetting.clamped, hp]

theorem execPeriodBoundary_eq {c : Fin 2} (hr : s.resetHeld = none) (he : (s.channel c).enabled = true) :
    exec (.periodBoundary c) s = .next (s.setChannel c (s.channel c).boundary) :=
  congrArg Host.Outcome.next ((exec_running hr).trans (if_pos he))

theorem execPwmDutyEnd_eq {c : Fin 2} (hr : s.resetHeld = none) (he : (s.channel c).enabled = true) :
    exec (.pwmDutyEnd c) s = .next
      (if (s.channel c).active.duty < (s.channel c).active.period then
        s.setChannel c { s.channel c with pinActive := false }
      else s) := by
  refine congrArg Host.Outcome.next ((exec_running hr).trans ?_)
  simp only [he, Bool.true_and, decide_eq_true_eq]

/-- Settles O42: each event of a running part is its one change, under its condition. -/
theorem tickAndOutputTimersAct : Obligations.TickAndOutputTimersAct := by
  refine ⟨fun s hr => execTick_eq hr, fun n s hr => execPulseEnd_eq n hr, fun c s hr he => ?_,
    fun c s hr he => execPwmDutyEnd_eq hr he⟩
  exact (execPeriodBoundary_eq hr he).trans
    (congrArg (fun x => Host.Outcome.next (s.setChannel c x)) (PwmChannel.boundary_eq _))

end Sys2Proof.Machine
end

section
/-! The input block, record by record (R134, R135, R140): what the filter makes of the record of one input, and what a
SET_INPUT_CONFIG makes of all of them. -/

namespace Sys2Proof.Machine

variable {s t u : State} {i j : InputId}

/-! ### Inputs -/

theorem mem_allInputs (i : InputId) : i ∈ allInputs := by
  cases i with
  | axis a l => fin_cases a <;> cases l <;> decide
  | general i => fin_cases i <;> decide
  | estop => decide

theorem mem_configurableInputs : i ∈ configurableInputs ↔ i ≠ .estop := by
  have hall : i = .estop ∨ i ∈ configurableInputs := List.mem_cons.1 (mem_allInputs i)
  have hestop : InputId.estop ∉ configurableInputs := by decide
  exact ⟨fun hi e => hestop (e ▸ hi), hall.resolve_left⟩

theorem nodup_configurableInputs : configurableInputs.Nodup := by decide

theorem State.input_congr (h : t.inputs = s.inputs) (i : InputId) : t.input i = s.input i := by
  cases i <;> simp only [State.input, h]

theorem State.filterTime_congr (ha : t.inputs.axisFilter = s.inputs.axisFilter)
    (hg : t.inputs.generalFilter = s.inputs.generalFilter) (i : InputId) : t.filterTime i = s.filterTime i := by
  cases i <;> simp only [State.filterTime, ha, hg]

theorem AxisInputs.setLine_setLine (x : AxisInputs) (l : AxisLine) (r r' : InputRecord) :
    (x.setLine l r).setLine l r' = x.setLine l r' := by
  cases l <;> rfl

theorem State.setInput_setInput (s : State) (i : InputId) (r r' : InputRecord) :
    (s.setInput i r).setInput i r' = s.setInput i r' := by
  cases i <;> simp [State.setInput, AxisInputs.setLine_setLine]

/-- A change of the input block alone. -/
def InputsOnly (s t : State) : Prop := t = { s with inputs := t.inputs }

theorem InputsOnly.trans (hs : InputsOnly s t) (ht : InputsOnly t u) : InputsOnly s u := by
  unfold InputsOnly at hs ht ⊢
  rw [ht, hs]

theorem inputsOnly_setInput (s : State) (i : InputId) (r : InputRecord) : InputsOnly s (s.setInput i r) := by
  cases i <;> rfl

/-! ### The filter on one record (R135) -/

/-- A pending acceptance is present exactly while the raw level differs from the accepted one. -/
def InputRecord.Settled (r : InputRecord) : Prop := r.pending.isSome = (r.raw != r.accepted)

theorem InputRecord.settled_iff {r : InputRecord} : r.Settled ↔ (r.pending = none ↔ r.raw = r.accepted) := by
  unfold InputRecord.Settled
  cases r.pending <;> cases r.raw <;> cases r.accepted <;> simp

/-- The record as the filter takes a raw change at `now`, with its filter time (R135, the table). -/
def InputRecord.filtered (r : InputRecord) (time : Nat) (now : Uptime) : InputRecord :=
  if r.raw = r.accepted then { r with pending := none }
  else if time = 0 then r.sampled
  else { r with pending := some (now + BitVec.ofNat 32 time) }

/-- The record after step 1 of R140, for a filter time that has changed. -/
def InputRecord.restarted (r : InputRecord) (time : Nat) (now : Uptime) : InputRecord :=
  if r.pending.isNone then r
  else if time = 0 then r.sampled
  else { r with pending := some (now + BitVec.ofNat 32 time) }

theorem InputRecord.settled_sampled (r : InputRecord) : r.sampled.Settled :=
  InputRecord.settled_iff.2 (iff_of_true rfl rfl)

theorem InputRecord.settled_filtered (r : InputRecord) (time : Nat) (now : Uptime) : (r.filtered time now).Settled := by
  unfold InputRecord.filtered
  split
  · next h => exact InputRecord.settled_iff.2 (iff_of_true rfl h)
  · next h =>
    split
    · exact r.settled_sampled
    · exact InputRecord.settled_iff.2 (iff_of_false nofun h)

theorem InputRecord.settled_restarted {r : InputRecord} (hr : r.Settled) (time : Nat) (now : Uptime) :
    (r.restarted time now).Settled := by
  unfold InputRecord.restarted
  split
  · exact hr
  · next h =>
    split
    · exact r.settled_sampled
    · have hraw : r.raw ≠ r.accepted := fun e => h (Option.isNone_iff_eq_none.2 ((InputRecord.settled_iff.1 hr).2 e))
      exact InputRecord.settled_iff.2 (iff_of_false nofun hraw)

/-- The pin and the polarity of a record are no business of its filter. -/
theorem InputRecord.filtered_wiring (r : InputRecord) (time : Nat) (now : Uptime) :
    (r.filtered time now).pinHigh = r.pinHigh ∧ (r.filtered time now).activeHigh = r.activeHigh := by
  unfold InputRecord.filtered
  split
  · exact ⟨rfl, rfl⟩
  · split <;> exact ⟨rfl, rfl⟩

theorem InputRecord.restarted_wiring (r : InputRecord) (time : Nat) (now : Uptime) :
    (r.restarted time now).pinHigh = r.pinHigh ∧ (r.restarted time now).activeHigh = r.activeHigh := by
  unfold InputRecord.restarted
  split
  · exact ⟨rfl, rfl⟩
  · split <;> exact ⟨rfl, rfl⟩

/-- Without a filter the accepted level is the raw level. -/
theorem InputRecord.filtered_zero (r : InputRecord) (now : Uptime) : r.filtered 0 now = r.sampled := by
  unfold InputRecord.filtered InputRecord.sampled
  split
  · next h => rw [h]
  · rfl

/-- With a filter the accepted level stays. -/
theorem InputRecord.filtered_pos (r : InputRecord) {time : Nat} (ht : time ≠ 0) (now : Uptime) :
    r.filtered time now =
      { r with pending := if r.raw = r.accepted then none else some (now + BitVec.ofNat 32 time) } := by
  unfold InputRecord.filtered
  split
  · rfl
  · rfl

/-! ### The operations of the filter -/

/-- What the operations of the filter leave alone beside the records of the inputs. -/
structure FilterFrame (s t : State) : Prop where
  axisFilter : t.inputs.axisFilter = s.inputs.axisFilter
  generalFilter : t.inputs.generalFilter = s.inputs.generalFilter
  reportOnChange : t.inputs.reportOnChange = s.inputs.reportOnChange
  uptime : t.uptime = s.uptime
  line : t.line = s.line
  resetHeld : t.resetHeld = s.resetHeld

theorem FilterFrame.refl (s : State) : FilterFrame s s := ⟨rfl, rfl, rfl, rfl, rfl, rfl⟩

theorem FilterFrame.trans (h : FilterFrame s t) (k : FilterFrame t u) : FilterFrame s u where
  axisFilter := k.axisFilter.trans h.axisFilter
  generalFilter := k.generalFilter.trans h.generalFilter
  reportOnChange := k.reportOnChange.trans h.reportOnChange
  uptime := k.uptime.trans h.uptime
  line := k.line.trans h.line
  resetHeld := k.resetHeld.trans h.resetHeld

theorem FilterFrame.filterTime (h : FilterFrame s t) (i : InputId) : t.filterTime i = s.filterTime i :=
  State.filterTime_congr h.axisFilter h.generalFilter i

theorem EngineFrame.filterFrame (h : EngineFrame s t) : FilterFrame s t := by
  refine ⟨?_, ?_, ?_, h.uptime, h.line, h.resetHeld⟩ <;> rw [h.inputs]

/-- `t` is `s` with the record of input `i` replaced, and whatever the engines make of that. -/
structure Rerecords (i : InputId) (r : InputRecord) (s t : State) : Prop where
  frame : FilterFrame s t
  input (j : InputId) : t.input j = if j = i then r else s.input j

theorem rerecords_setInput (s : State) (i : InputId) (r : InputRecord) : Rerecords i r s (s.setInput i r) where
  frame := by cases i <;> exact ⟨rfl, rfl, rfl, rfl, rfl, rfl⟩
  input j := State.input_setInput s i j r

theorem rerecords_self (s : State) (i : InputId) : Rerecords i (s.input i) s s where
  frame := .refl s
  input j := by
    split
    · next e => rw [e]
    · rfl

theorem Rerecords.engine {r : InputRecord} (h : Rerecords i r s t) (k : EngineFrame t u) : Rerecords i r s u where
  frame := h.frame.trans k.filterFrame
  input j := (State.input_congr k.inputs j).trans (h.input j)

theorem Rerecords.trans {r r' : InputRecord} (h : Rerecords i r s t) (k : Rerecords i r' t u) : Rerecords i r' s u where
  frame := h.frame.trans k.frame
  input j := by
    rw [k.input, h.input]
    split <;> rfl

theorem Rerecords.own {r : InputRecord} (h : Rerecords i r s t) : t.input i = r := by
  rw [h.input, if_pos rfl]

theorem acceptRaw_rerecords (i : InputId) (s : State) : Rerecords i (s.input i).sampled s (acceptRaw i s) :=
  (rerecords_setInput s i _).engine (handOn_frame i _ _)

theorem filterRaw_rerecords (i : InputId) (s : State) :
    Rerecords i ((s.input i).filtered (s.filterTime i) s.uptime) s (filterRaw i s) := by
  unfold filterRaw InputRecord.filtered
  dsimp only
  split
  · exact rerecords_setInput s i _
  · split
    · exact acceptRaw_rerecords i s
    · exact rerecords_setInput s i _

theorem restartFilter_rerecords (i : InputId) (s : State) :
    Rerecords i ((s.input i).restarted (s.filterTime i) s.uptime) s (restartFilter i s) := by
  unfold restartFilter InputRecord.restarted
  dsimp only
  split
  · exact rerecords_self s i
  · split
    · exact acceptRaw_rerecords i s
    · exact rerecords_setInput s i _

/-- A write of an input's wiring that the filter then takes as a raw change. -/
theorem filterRaw_setInput_rerecords (i : InputId) (r : InputRecord) (s : State) :
    Rerecords i (r.filtered (s.filterTime i) s.uptime) s (filterRaw i (s.setInput i r)) := by
  have hf := filterRaw_rerecords i (s.setInput i r)
  rw [State.input_setInput_self, State.filterTime_setInput, State.setInput_uptime] at hf
  exact (rerecords_setInput s i r).trans hf

theorem pinTakes_rerecords (i : InputId) (high : Bool) (s : State) :
    Rerecords i (InputRecord.filtered { s.input i with pinHigh := high } (s.filterTime i) s.uptime) s
      (pinTakes i high s) := filterRaw_setInput_rerecords i _ s

/-! ### SET_INPUT_CONFIG, input by input (R140) -/

/-- The record after both steps of R140. -/
def InputRecord.reconfigured (r : InputRecord) (changed high : Bool) (time : Nat) (now : Uptime) : InputRecord :=
  if r.activeHigh = high then if changed then r.restarted time now else r
  else InputRecord.filtered { (if changed then r.restarted time now else r) with activeHigh := high } time now

theorem reconfigure_rerecords (i : InputId) (changed high : Bool) (s : State) :
    Rerecords i ((s.input i).reconfigured changed high (s.filterTime i) s.uptime) s (reconfigure i changed high s) := by
  unfold reconfigure
  extract_lets v
  have hv : Rerecords i (if changed then (s.input i).restarted (s.filterTime i) s.uptime else s.input i) s v := by
    unfold v
    split
    · exact restartFilter_rerecords i s
    · exact rerecords_self s i
  have hpolarity : (v.input i).activeHigh = (s.input i).activeHigh := by
    rw [hv.own]
    split
    · exact (InputRecord.restarted_wiring _ _ _).2
    · rfl
  rw [hpolarity, InputRecord.reconfigured]
  split
  · exact hv
  · have hf := filterRaw_setInput_rerecords i { v.input i with activeHigh := high } v
    rw [hv.frame.filterTime, hv.frame.uptime, hv.own] at hf
    rw [changePolarity, hv.own]
    exact hv.trans hf

theorem InputRecord.settled_reconfigured {r : InputRecord} (hr : r.Settled) (changed high : Bool) (time : Nat)
    (now : Uptime) : (r.reconfigured changed high time now).Settled := by
  unfold InputRecord.reconfigured
  split
  · split
    · exact InputRecord.settled_restarted hr time now
    · exact hr
  · exact InputRecord.settled_filtered _ time now

theorem InputRecord.reconfigured_wiring (r : InputRecord) (changed high : Bool) (time : Nat) (now : Uptime) :
    (r.reconfigured changed high time now).pinHigh = r.pinHigh ∧
      (r.reconfigured changed high time now).activeHigh = high := by
  obtain ⟨hpin, hpolarity⟩ := r.restarted_wiring time now
  unfold InputRecord.reconfigured
  split
  · next hhigh =>
    split
    · exact ⟨hpin, hpolarity.trans hhigh⟩
    · exact ⟨rfl, hhigh⟩
  · obtain ⟨h1, h2⟩ := InputRecord.filtered_wiring
      { (if changed then r.restarted time now else r) with activeHigh := high } time now
    refine ⟨h1.trans ?_, h2⟩
    dsimp only
    split
    · exact hpin
    · rfl

/-- One input treated by a SET_INPUT_CONFIG that was taken in state `s`. -/
def treatInput (c : InputConfig) (s u : State) (i : InputId) : State :=
  reconfigure i (s.filterTime i != c.filterTime i) (c.activeHigh i) u

/-- The record of an input after a SET_INPUT_CONFIG that was taken in state `s`. -/
def InputConfig.record (c : InputConfig) (s : State) (i : InputId) : InputRecord :=
  (s.input i).reconfigured (s.filterTime i != c.filterTime i) (c.activeHigh i) (c.filterTime i) s.uptime

/-- The part with the filter values and flags of a SET_INPUT_CONFIG written, and no input treated yet. -/
def State.filtersWritten (s : State) (c : InputConfig) : State :=
  { s with inputs := { s.inputs with
    axisFilter := c.axisFilter, generalFilter := c.generalFilter, reportOnChange := c.reportOnChange } }

@[simp] theorem State.input_filtersWritten (s : State) (c : InputConfig) (i : InputId) :
    (s.filtersWritten c).input i = s.input i := by
  cases i <;> rfl

@[simp] theorem State.filterTime_filtersWritten (s : State) (c : InputConfig) (i : InputId) :
    (s.filtersWritten c).filterTime i = c.filterTime i := by
  cases i <;> rfl

/-- Inputs treated one by one, the filter values written and their records not yet treated: each is treated once, on its
own record. -/
theorem foldl_treatInput {c : InputConfig} (l : List InputId) (hl : l.Nodup)
    (hframe : FilterFrame (s.filtersWritten c) u) (hsame : ∀ i ∈ l, u.input i = s.input i) :
    FilterFrame (s.filtersWritten c) (l.foldl (treatInput c s) u) ∧
      ∀ j, (l.foldl (treatInput c s) u).input j = if j ∈ l then c.record s j else u.input j := by
  induction l generalizing u with
  | nil => exact ⟨hframe, fun j => rfl⟩
  | cons i l ih =>
    obtain ⟨hi, hl⟩ := List.nodup_cons.1 hl
    have hr : Rerecords i (c.record s i) u (treatInput c s u i) := by
      have hr := reconfigure_rerecords i (s.filterTime i != c.filterTime i) (c.activeHigh i) u
      rw [hsame i (.head l), hframe.filterTime, hframe.uptime, State.filterTime_filtersWritten] at hr
      exact hr
    obtain ⟨hframe', hinput⟩ := ih hl (hframe.trans hr.frame) fun k hk => by
      rw [hr.input, if_neg fun e : k = i => hi (e ▸ hk)]
      exact hsame k (.tail i hk)
    refine ⟨hframe', fun j => ?_⟩
    rw [List.foldl_cons, hinput, hr.input]
    by_cases e : j = i
    · simp [e, hi]
    · simp [e]

/-- The inputs whose accepted level a SET_INPUT_CONFIG changes at once. -/
def loudInputs (c : InputConfig) (s : State) : List InputId := configurableInputs.filter fun i => changesAtOnce c s i

/-- The inputs that wait in their filters. -/
def quietInputs (c : InputConfig) (s : State) : List InputId := configurableInputs.filter fun i => !changesAtOnce c s i

theorem mem_loudInputs {c : InputConfig} : i ∈ loudInputs c s ↔ i ≠ .estop ∧ changesAtOnce c s i = true := by
  simp [loudInputs, mem_configurableInputs]

theorem mem_quietInputs {c : InputConfig} : i ∈ quietInputs c s ↔ i ≠ .estop ∧ changesAtOnce c s i = false := by
  simp [quietInputs, mem_configurableInputs]

/-- The quiet inputs are treated first, then the others in an order that is drawn (notes/assumptions/6.md). -/
theorem applyInputConfig_eq (c : InputConfig) (s : State) :
    applyInputConfig c s =
      (drawOrder (loudInputs c s) ((quietInputs c s).foldl (treatInput c s) (s.filtersWritten c))).1.foldl
        (treatInput c s)
        (drawOrder (loudInputs c s) ((quietInputs c s).foldl (treatInput c s) (s.filtersWritten c))).2 := rfl

/-- What a SET_INPUT_CONFIG leaves, input by input, in whatever order the inputs are treated. -/
theorem applyInputConfig_spec (c : InputConfig) (s : State) :
    FilterFrame (s.filtersWritten c) (applyInputConfig c s) ∧
      ∀ j, (applyInputConfig c s).input j = if j = .estop then s.input j else c.record s j := by
  obtain ⟨hframe, hquiet⟩ := foldl_treatInput (quietInputs c s) (nodup_configurableInputs.filter _)
    (FilterFrame.refl (s.filtersWritten c)) fun i _ => State.input_filtersWritten s c i
  rw [applyInputConfig_eq]
  generalize (quietInputs c s).foldl (treatInput c s) (s.filtersWritten c) = v at hframe hquiet
  have hdrawn := (stopFrame_drawOrder (loudInputs c s) v).engine
  have hperm := (drawOrder_spec (loudInputs c s) v).1
  have hinput (j : InputId) :
      (drawOrder (loudInputs c s) v).2.input j = if j ∈ quietInputs c s then c.record s j else s.input j := by
    rw [State.input_congr hdrawn.inputs, hquiet, State.input_filtersWritten]
  obtain ⟨hframe', hloud⟩ := foldl_treatInput (drawOrder (loudInputs c s) v).1
    (hperm.nodup_iff.2 (nodup_configurableInputs.filter _)) (hframe.trans hdrawn.filterFrame) fun i hi => by
      have hc := (mem_loudInputs.1 (hperm.mem_iff.1 hi)).2
      rw [hinput, if_neg fun hq => by simp [(mem_quietInputs.1 hq).2] at hc]
  refine ⟨hframe', fun j => ?_⟩
  rw [hloud, hinput]
  simp only [hperm.mem_iff, mem_loudInputs, mem_quietInputs]
  by_cases he : j = .estop
  · simp [he]
  · cases hc : changesAtOnce c s j <;> simp [he]

end Sys2Proof.Machine
end

section
/-! The line interface and the inputs of a running part (O57): what the frames, the events of the line and the filter
make of them, and what leaves them alone. -/

namespace Sys2Proof.Machine

variable {s t u : State} {l : LineInterface}

/-! ### The line interface (R153, R157, R162, R164) -/

/-- The parts of a sound line interface. -/
structure LineInterface.Rules (l : LineInterface) : Prop where
  timeout : l.timeout = 0 ∨ 20 ≤ l.timeout ∧ l.timeout ≤ 60000
  up : l.link = .up → l.timer.isSome = (l.timeout != 0)
  lost : l.link = .lost → l.timer = none ∧ l.timeout ≠ 0
  unaddressed : l.addressed = false → l.timeout = 0 ∧ l.cache = none ∧ l.transmit = .silent
  replying : l.transmit ≠ .silent → l.receive = .between
  stats : l.stats.checkFailures ≤ 65535 ∧ l.stats.escapeErrors ≤ 65535 ∧ l.stats.oversize ≤ 65535 ∧
    l.stats.gaps ≤ 65535 ∧ l.stats.openings ≤ 65535

theorem LineInterface.sound_iff : l.sound = true ↔ l.Rules := by
  have hlink : (match l.link with
      | .up => l.timer.isSome == (l.timeout != 0)
      | .lost => l.timer.isNone && l.timeout != 0) = true ↔
      (l.link = .up → l.timer.isSome = (l.timeout != 0)) ∧ (l.link = .lost → l.timer = none ∧ l.timeout ≠ 0) := by
    cases l.link <;> simp
  have hunaddressed : (l.addressed || (l.timeout == 0 && l.cache.isNone && l.transmit == .silent)) = true ↔
      (l.addressed = false → l.timeout = 0 ∧ l.cache = none ∧ l.transmit = .silent) := by
    cases l.addressed <;> simp [and_assoc]
  have hreplying : (match l.transmit with
      | .silent => true
      | .built _ | .sending _ _ _ => l.receive == .between) = true ↔
      (l.transmit ≠ .silent → l.receive = .between) := by
    cases l.transmit <;> simp
  simp only [LineInterface.sound, Bool.and_eq_true, Bool.or_eq_true, beq_iff_eq, decide_eq_true_eq] at hunaddressed ⊢
  constructor
  · rintro ⟨⟨⟨⟨h1, h2⟩, h3⟩, h4⟩, h5⟩
    exact ⟨h1, (hlink.1 h2).1, (hlink.1 h2).2, hunaddressed.1 h3, hreplying.1 h4, h5⟩
  · rintro ⟨h1, h2, h3, h4, h5, h6⟩
    exact ⟨⟨⟨⟨h1, hlink.2 ⟨h2, h3⟩⟩, hunaddressed.2 h4⟩, hreplying.2 h5⟩, h6⟩

/-- The line interface after a reset obeys its rules, whatever the straps (R166). -/
theorem LineInterface.rules_reset (pins address : BitVec 5) (speedPins speed : BitVec 2) :
    (LineInterface.reset pins address speedPins speed).Rules where
  timeout := .inl rfl
  up _ := rfl
  lost h := nomatch h
  unaddressed _ := ⟨rfl, rfl, rfl⟩
  replying h := absurd rfl h
  stats := ⟨Nat.zero_le _, Nat.zero_le _, Nat.zero_le _, Nat.zero_le _, Nat.zero_le _⟩

/-- The receive side between frames, and the transmit side silent or as it was. -/
theorem LineInterface.Rules.between (h : l.Rules) {x : TransmitSide} (hx : x = .silent ∨ x = l.transmit) :
    Rules { l with receive := .between, transmit := x } where
  timeout := h.timeout
  up := h.up
  lost := h.lost
  unaddressed ha := by
    obtain ⟨ht, hc, hs⟩ := h.unaddressed ha
    exact ⟨ht, hc, hx.elim id fun e => e.trans hs⟩
  replying _ := rfl
  stats := h.stats

/-- The transmit side silent, and the receive side wherever it is. -/
theorem LineInterface.Rules.silent (h : l.Rules) (r : ReceiveSide) :
    Rules { l with receive := r, transmit := .silent } where
  timeout := h.timeout
  up := h.up
  lost := h.lost
  unaddressed ha := by
    obtain ⟨ht, hc, -⟩ := h.unaddressed ha
    exact ⟨ht, hc, rfl⟩
  replying hx := absurd rfl hx
  stats := h.stats

/-- An addressed part between frames may hold any reply and any cache entry. -/
theorem LineInterface.Rules.answering (h : l.Rules) (ha : l.addressed = true) (hr : l.receive = .between)
    (x : TransmitSide) (c : Option (BitVec 3 × List Byte)) (w : Bool) :
    Rules { l with transmit := x, cache := c, wasLost := w } where
  timeout := h.timeout
  up := h.up
  lost := h.lost
  unaddressed hn := nomatch ha.symm.trans hn
  replying _ := hr
  stats := h.stats

theorem LineInterface.Rules.setStats (h : l.Rules) {c : LinkStats}
    (hc : c.checkFailures ≤ 65535 ∧ c.escapeErrors ≤ 65535 ∧ c.oversize ≤ 65535 ∧ c.gaps ≤ 65535 ∧ c.openings ≤ 65535) :
    Rules { l with stats := c } := { h with stats := hc }

/-- The link is UP, with a timer exactly where there is a timeout. -/
theorem LineInterface.Rules.linked (h : l.Rules) {timer : Option Uptime} (w : Bool)
    (ht : timer.isSome = (l.timeout != 0)) : Rules { l with link := .up, timer := timer, wasLost := w } where
  timeout := h.timeout
  up _ := ht
  lost e := nomatch e
  unaddressed := h.unaddressed
  replying := h.replying
  stats := h.stats

/-- A link with a timeout is lost, and its timer stops. -/
theorem LineInterface.Rules.unlinked (h : l.Rules) (ht : l.timeout ≠ 0) :
    Rules { l with link := .lost, timer := none } where
  timeout := h.timeout
  up e := nomatch e
  lost _ := ⟨rfl, ht⟩
  unaddressed := h.unaddressed
  replying := h.replying
  stats := h.stats

/-- A supervising frame leaves the link UP, with a timer exactly where there is a timeout (R162). -/
theorem supervise_eq (h : s.line.Rules) : ∃ timer w,
    supervise s = { s with line := { s.line with link := .up, timer := timer, wasLost := w } } ∧
      timer.isSome = (s.line.timeout != 0) := by
  unfold supervise
  split
  · next hl =>
    split
    · next ht => exact ⟨s.line.timer, s.line.wasLost, by rw [← hl], h.up hl⟩
    · next ht => exact ⟨_, s.line.wasLost, by rw [← hl], by simpa using ht⟩
  · next hl => exact ⟨_, true, rfl, by simpa using (h.lost hl).2⟩

/-! ### The inputs and the line of a running part -/

/-- A running part whose inputs and line are as their rules say (R134, R135, R153, R157, R162, R164). -/
structure State.FrontSound (s : State) : Prop where
  running : s.resetHeld = none
  filters : ∀ a : Fin 4, s.inputs.axisFilter[a] ≤ 15 ∧ s.inputs.generalFilter[a] ≤ 15
  estop : (s.input .estop).activeHigh = false
  settled : ∀ i, (s.input i).Settled
  line : s.line.Rules

/-- The invariant of the statement. -/
structure State.FrontInvariant (s : State) : Prop where
  inputs : s.InputsSound
  line : s.LineSound
  quiet : s.QuietInReset

theorem State.FrontSound.invariant (h : s.FrontSound) : s.FrontInvariant where
  inputs := ⟨h.filters, h.estop, fun _ i _ => h.settled i⟩
  line := LineInterface.sound_iff.2 h.line
  quiet hr := absurd h.running hr

theorem State.InputsSound.settled (h : s.InputsSound) (hr : s.resetHeld = none) (i : InputId) :
    (s.input i).Settled := by
  obtain ⟨-, -, hrecords⟩ := h
  exact hrecords hr i (mem_allInputs i)

theorem State.FrontInvariant.front (h : s.FrontInvariant) (hr : s.resetHeld = none) : s.FrontSound := by
  obtain ⟨hfilters, hestop, -⟩ := h.inputs
  exact ⟨hr, hfilters, hestop, h.inputs.settled hr, LineInterface.sound_iff.1 h.line⟩

/-- An event that a part held in reset does not take. -/
theorem State.FrontInvariant.of_running (h : s.FrontInvariant) (hheld : s.resetHeld ≠ none → t = s)
    (hrun : s.FrontSound → t.FrontSound) : t.FrontInvariant := by
  by_cases hr : s.resetHeld = none
  · exact (hrun (h.front hr)).invariant
  · exact hheld hr ▸ h

/-- `t` has the inputs and the line of `s`, and is held in reset as `s` is. -/
structure SameFront (s t : State) : Prop where
  inputs : t.inputs = s.inputs
  line : t.line = s.line
  resetHeld : t.resetHeld = s.resetHeld

theorem SameFront.refl (s : State) : SameFront s s := ⟨rfl, rfl, rfl⟩

theorem SameFront.trans (h : SameFront s t) (k : SameFront t u) : SameFront s u :=
  ⟨k.inputs.trans h.inputs, k.line.trans h.line, k.resetHeld.trans h.resetHeld⟩

theorem EngineFrame.sameFront (h : EngineFrame s t) : SameFront s t := ⟨h.inputs, h.line, h.resetHeld⟩

theorem foldl_sameFront {α : Type} (f : State → α → State) (hf : ∀ s x, SameFront s (f s x)) (l : List α) (s : State) :
    SameFront s (l.foldl f s) :=
  List.foldlRecOn l f (.refl s) fun t h x _ => h.trans (hf t x)

theorem SameFront.front (h : SameFront s t) (hs : s.FrontSound) : t.FrontSound where
  running := h.resetHeld.trans hs.running
  filters := by rw [h.inputs]; exact hs.filters
  estop := by rw [State.input_congr h.inputs]; exact hs.estop
  settled i := by rw [State.input_congr h.inputs]; exact hs.settled i
  line := by rw [h.line]; exact hs.line

theorem State.FrontSound.setLine (h : s.FrontSound) (hl : l.Rules) : State.FrontSound { s with line := l } where
  running := h.running
  filters := h.filters
  estop := h.estop
  settled i := by rw [State.input_congr rfl]; exact h.settled i
  line := hl

theorem FilterFrame.front (h : FilterFrame s t) (hs : s.FrontSound) (hestop : (t.input .estop).activeHigh = false)
    (hsettled : ∀ i, (t.input i).Settled) : t.FrontSound where
  running := h.resetHeld.trans hs.running
  filters := by rw [h.axisFilter, h.generalFilter]; exact hs.filters
  estop := hestop
  settled := hsettled
  line := by rw [h.line]; exact hs.line

/-- The record of an input replaced by one that waits just as it should. -/
theorem Rerecords.front {i : InputId} {r : InputRecord} (h : Rerecords i r s t) (hs : s.FrontSound) (hr : r.Settled)
    (hhigh : r.activeHigh = (s.input i).activeHigh) : t.FrontSound := by
  refine h.frame.front hs ?_ fun j => ?_
  · rw [h.input]
    split
    · next e => rw [hhigh, ← e]; exact hs.estop
    · exact hs.estop
  · rw [h.input]
    split
    · exact hr
    · exact hs.settled j

/-! ### Resets (R136, R166) -/

/-- Every input record as a reset is taken. -/
theorem input_takeReset (c : ResetCause) (s : State) (i : InputId) :
    (takeReset c s).input i = (s.input i).taken (resetHigh i) := by
  cases i with
  | axis a l => fin_cases a <;> cases l <;> rfl
  | general i => fin_cases i <;> rfl
  | estop => rfl

theorem takeReset_invariant (c : ResetCause) (s : State) : (takeReset c s).FrontInvariant where
  inputs := by
    have htwo : ∀ a : Fin 4, (Vector.replicate 4 2)[a] ≤ 15 := by decide
    exact ⟨fun a => ⟨htwo a, htwo a⟩, rfl, nofun⟩
  line := LineInterface.sound_iff.2 (LineInterface.rules_reset _ _ _ _)
  quiet _ := by
    refine ⟨⟨rfl, rfl, rfl, rfl, rfl, rfl, rfl, fun i _ => ?_, rfl, rfl, rfl⟩, rfl, rfl⟩
    rw [input_takeReset]
    exact ⟨rfl, rfl⟩

theorem completeReset_front (c : ResetCause) (h : s.FrontInvariant) (hr : s.resetHeld ≠ none) :
    (completeReset c s).FrontSound := by
  have hinput (i : InputId) : (completeReset c s).input i = (s.input i).sampled := input_sampled s i
  obtain ⟨hfilters, hestop, -⟩ := h.inputs
  refine ⟨rfl, hfilters, hestop, fun i => ?_, ?_⟩
  · rw [hinput]
    exact InputRecord.settled_sampled _
  · obtain ⟨-, -, hline⟩ := h.quiet hr
    have hcomplete : (completeReset c s).line =
        .reset s.line.addressPins s.line.addressPins s.line.speedPins s.line.speedPins := by
      rw [completeReset, admitReport_line, hline]
      rfl
    rw [hcomplete]
    exact LineInterface.rules_reset _ _ _ _

theorem resetNow_front (c : ResetCause) (s : State) : (resetNow c s).FrontSound :=
  completeReset_front c (takeReset_invariant c s) nofun

/-! ### Frames and the events of the line (R155 to R157, R164) -/

/-- An operation that keeps the inputs and the line of a running part as their rules say. -/
def KeepsFront (f : State → State) : Prop := ∀ u : State, u.FrontSound → (f u).FrontSound

theorem KeepsFront.of_same {f : State → State} (hf : ∀ u, SameFront u (f u)) : KeepsFront f := fun u => (hf u).front

/-- An event that acts under a condition. -/
theorem KeepsFront.ite {c : State → Bool} {f : State → State} (hf : KeepsFront f) :
    KeepsFront fun s => if c s then f s else s := by
  intro u h
  dsimp only
  split
  · exact hf u h
  · exact h

theorem KeepsFront.whenRunning {f : State → State} (hf : KeepsFront f) (h : s.FrontInvariant) :
    (whenRunning f s).FrontInvariant :=
  h.of_running (fun hr => if_pos (Option.isSome_iff_ne_none.2 hr)) fun hs => by
    rw [exec_running hs.running]
    exact hf s hs

/-- A part that is not transmitting has no reply on its way. -/
theorem not_sending (h : s.transmitting = false) {r : Reply} {p w : Bool} : s.line.transmit ≠ .sending r p w := by
  intro e
  simp [State.transmitting, e] at h

theorem beginFrame_keepsFront : KeepsFront beginFrame := by
  intro u h
  unfold beginFrame
  split
  · split
    · exact resetNow_front _ u
    · exact h.setLine (h.line.silent .inFrame)
  · next htr =>
    have hsilent : u.setReceive .inFrame = (u.setTransmit .silent).setReceive .inFrame := by
      simp only [State.setReceive, State.setTransmit, ← htr]
    rw [hsilent]
    exact h.setLine (h.line.silent .inFrame)
  · exact h

/-- What a complete frame comes to in a running part: it is lost in a transmission, it is lost in the reset of a
RESTART, or its effect begins in the state in which it has been received whole. -/
theorem onFrame_running (f : State → State) (hr : s.resetHeld = none) :
    onFrame f s = s ∨ onFrame f s = resetNow .order s ∨ onFrame f s = f s.framed := by
  by_cases hq : s.transmitting = true
  · exact .inl (by simp [onFrame, hq])
  · rw [Bool.not_eq_true] at hq
    by_cases hw : s.line.receive = .between ∧ s.restartWaiting = true
    · refine .inr (.inl ?_)
      obtain ⟨hb, hw⟩ := hw
      have hbegin : beginFrame s = resetNow .order s := by
        unfold beginFrame
        split
        · next r htr => exact if_pos (by simpa [State.restartWaiting, htr] using hw)
        · next htr => simp [State.restartWaiting, htr] at hw
        · next htr => exact absurd htr (not_sending hq)
      simp only [onFrame, hr, hq, hb, hbegin]
      rfl
    · exact .inr (.inr (onFrame_listens f ⟨hr, hq, fun hb => by simpa [hb] using hw⟩))

theorem framed_front (h : s.FrontSound) : s.framed.FrontSound := by
  refine h.setLine (h.line.between ?_)
  cases s.line.receive
  · exact .inl rfl
  · exact .inr rfl

theorem onFrame_invariant {f : State → State}
    (hf : ∀ u : State, u.FrontSound → u.line.receive = .between → (f u).FrontSound)
    (h : s.FrontInvariant) : (onFrame f s).FrontInvariant := by
  refine h.of_running (fun hr => ?_) fun hs => ?_
  · simp [onFrame, Option.isSome_iff_ne_none.2 hr]
  · obtain e | e | e := onFrame_running f hs.running
    · rw [e]; exact hs
    · rw [e]; exact resetNow_front _ s
    · rw [e]; exact hf _ (framed_front hs) rfl

/-- A counter that saturates stays in its range (R164). -/
theorem bump_le {n : Nat} (h : n ≤ 65535) : bump n ≤ 65535 := addSaturating_le h

/-- The counters are in their range (R164). -/
def LinkStats.InRange (c : LinkStats) : Prop :=
  c.checkFailures ≤ 65535 ∧ c.escapeErrors ≤ 65535 ∧ c.oversize ≤ 65535 ∧ c.gaps ≤ 65535 ∧ c.openings ≤ 65535

theorem abandonFrame_invariant (r : ReceiveSide) {count : LinkStats → LinkStats}
    (hcount : ∀ c : LinkStats, c.InRange → (count c).InRange) (h : s.FrontInvariant) :
    (abandonFrame r count s).FrontInvariant := by
  refine h.of_running (fun hr => ?_) fun hs => ?_
  · simp [abandonFrame, Option.isSome_iff_ne_none.2 hr]
  · unfold abandonFrame
    split
    · exact hs
    · split
      · next hin =>
        have hsilent : s.line.transmit = .silent := by
          by_contra hx
          exact nomatch hin.symm.trans (hs.line.replying hx)
        have hrules := (hs.line.silent r).setStats (hcount _ hs.line.stats)
        rw [← hsilent] at hrules
        exact hs.setLine hrules
      · exact hs

theorem supervise_front (h : s.FrontSound) : (supervise s).FrontSound := by
  obtain ⟨timer, w, e, ht⟩ := supervise_eq h.line
  rw [e]
  exact h.setLine (h.line.linked w ht)

end Sys2Proof.Machine
end

section
/-! What the orders leave of the inputs and the line when they accept (O57): SET_LINK, GET_LINK_STATS and
SET_INPUT_CONFIG write them within their rules, and every other order leaves them alone. -/

namespace Sys2Proof.Machine

variable {s t u v : State} {p : List Byte}

/-! ### An order's effect and its answer (R157, R159, R161) -/

/-- What an order leaves when it accepts, before it is answered: inputs and line as their rules say, the receive side
and the address as they were. -/
structure OrderKeeps (u v : State) : Prop where
  front : v.FrontSound
  receive : v.line.receive = u.line.receive
  address : v.line.address = u.line.address

theorem SameFront.order (h : SameFront u v) (hu : u.FrontSound) : OrderKeeps u v :=
  ⟨h.front hu, by rw [h.line], by rw [h.line]⟩

theorem OrderKeeps.addressed (h : OrderKeeps u v) (ha : u.line.addressed = true) : v.line.addressed = true := by
  simpa only [LineInterface.addressed, h.address] using ha

theorem addressed_of_station {l : LineInterface} {b : Byte} (h : addressee l b = .station) : l.addressed = true := by
  unfold addressee at h
  split at h
  · cases h
  · split at h
    · next ha => exact (Bool.and_eq_true_iff.1 ha).1
    · cases h

theorem buildReply_front (k : ReplyKind) (seq : BitVec 3) (payload : List Byte) (r : Bool) (h : u.FrontSound)
    (ha : u.line.addressed = true) (hb : u.line.receive = .between) :
    (buildReply k seq payload r u).FrontSound := h.setLine (h.line.answering ha hb _ u.line.cache u.line.wasLost)

/-- An order that keeps the front of an addressed part is executed and answered. -/
theorem executeOrder_front {f : State → Verdict} (code : Byte) (r : Bool) (seq : BitVec 3) (hu : u.FrontSound)
    (ha : u.line.addressed = true) (hb : u.line.receive = .between) (hf : (f u).All (OrderKeeps u)) :
    (executeOrder code r f seq u).FrontSound := by
  have hleft : OrderKeeps u ((f u).stateFrom u) := by
    cases hv : f u with
    | accepted v q => exact hf v q hv
    | refused c => exact (SameFront.refl u).order hu
  exact hleft.front.setLine
    (hleft.front.line.answering (hleft.addressed ha) (hleft.receive.trans hb) _ _ _)

/-- An ORDER frame keeps inputs and line as their rules say when its order does, in a part that has been heard: an order
that is not carried out when broadcast is carried out in an addressed part only. -/
theorem receiveOrder_invariant {f : State → Verdict} {code : Byte} {heard r : Bool} {hd : Header}
    (hf : ∀ u : State, u.FrontSound → u.line.link = .up → (heard = false → u.line.addressed = true) →
      (f u).All (OrderKeeps u)) (h : s.FrontInvariant) : (receiveOrder code heard r f hd s).FrontInvariant := by
  refine onFrame_invariant (fun u hu hb => ?_) h
  obtain ⟨timer, w, e, ht⟩ := supervise_eq hu.line
  have hs : (supervise u).FrontSound := supervise_front hu
  have hlink : (supervise u).line.link = .up := by rw [e]
  split
  · next hst =>
    have ha : (supervise u).line.addressed = true := by rw [e]; exact addressed_of_station hst
    have hsb : (supervise u).line.receive = .between := by rw [e]; exact hb
    have hexec := executeOrder_front code r hd.seq hs ha hsb (hf _ hs hlink fun _ => ha)
    unfold addressedOrder
    split
    · split
      · exact buildReply_front _ _ _ _ hs ha hsb
      · exact hexec
    · exact hexec
  · split
    · next hh =>
      cases hv : f (supervise u) with
      | accepted v q => exact (hf _ hs hlink (fun hn => nomatch hh.symm.trans hn) v q hv).front
      | refused c => exact hs
    · exact hs
  · exact hu

theorem receiveOrder_same {f : State → Verdict} {code : Byte} {heard r : Bool} {hd : Header}
    (hf : ∀ {u}, (f u).All (SameFront u)) (h : s.FrontInvariant) : (receiveOrder code heard r f hd s).FrontInvariant :=
  receiveOrder_invariant (fun _ hu _ _ v q hv => (hf v q hv).order hu) h

/-! ### Orders that write the line or the inputs (R140, R163, R164) -/

theorem orderSetLink_keeps (hu : u.FrontSound) (hl : u.line.link = .up) (ha : u.line.addressed = true) :
    (orderSetLink p u).All (OrderKeeps u) := by
  unfold orderSetLink
  split
  · next t0 t1 att =>
    refine .orBadValue_of fun y hy => .accepted ⟨?_, rfl, rfl⟩
    simp only [Option.bind_eq_bind, Option.bind_eq_some_iff, Option.pure_def, Option.some.injEq] at hy
    obtain ⟨time, htime, att, -, rfl⟩ := hy
    unfold readLinkTimeout at htime
    split at htime
    · next hrange =>
      obtain rfl := Option.some.inj htime
      have hrules : LineInterface.Rules { u.line with
          timeout := le2 t0 t1, timer := if le2 t0 t1 = 0 then none else some (u.deadlineIn (le2 t0 t1)) } :=
        { timeout := hrange
          up := fun _ => by dsimp only; split <;> simp [*]
          lost := fun e => nomatch hl.symm.trans e
          unaddressed := fun e => nomatch ha.symm.trans e
          replying := hu.line.replying
          stats := hu.line.stats }
      exact SameFront.front (s := { u with line := (setLink (le2 t0 t1) att u).line }) ⟨rfl, rfl, rfl⟩
        (hu.setLine hrules)
    · cases htime
  · exact .refused _

theorem orderGetLinkStats_keeps (hu : u.FrontSound) : (orderGetLinkStats p u).All (OrderKeeps u) := by
  unfold orderGetLinkStats
  split
  · refine .orBadValue fun c => .accepted ?_
    split
    · exact ⟨hu.setLine (hu.line.setStats (LineInterface.rules_reset 0 0 0 0).stats), rfl, rfl⟩
    · exact (SameFront.refl u).order hu
  · exact .refused _

theorem readFilter_le {b : Byte} {n : Nat} (h : readFilter b = some n) : n ≤ 15 := by
  unfold readFilter at h
  split at h
  · next hb => exact Option.some.inj h ▸ hb
  · cases h

/-- The filter values that a SET_INPUT_CONFIG spells are in their range (R140). -/
theorem readInputConfig_filtersFit {c : InputConfig} (h : readInputConfig p = some c) : c.FiltersFit := by
  unfold readInputConfig at h
  split at h
  · obtain ⟨_, -, h⟩ := Option.bind_eq_some_iff.1 h
    obtain ⟨_, -, h⟩ := Option.bind_eq_some_iff.1 h
    obtain ⟨_, -, h⟩ := Option.bind_eq_some_iff.1 h
    obtain ⟨_, -, h⟩ := Option.bind_eq_some_iff.1 h
    obtain ⟨_, -, h⟩ := Option.bind_eq_some_iff.1 h
    obtain ⟨f0, h0, h⟩ := Option.bind_eq_some_iff.1 h
    obtain ⟨f1, h1, h⟩ := Option.bind_eq_some_iff.1 h
    obtain ⟨f2, h2, h⟩ := Option.bind_eq_some_iff.1 h
    obtain ⟨f3, h3, h⟩ := Option.bind_eq_some_iff.1 h
    obtain ⟨g0, k0, h⟩ := Option.bind_eq_some_iff.1 h
    obtain ⟨g1, k1, h⟩ := Option.bind_eq_some_iff.1 h
    obtain ⟨g2, k2, h⟩ := Option.bind_eq_some_iff.1 h
    obtain ⟨g3, k3, h⟩ := Option.bind_eq_some_iff.1 h
    obtain ⟨_, -, h⟩ := Option.bind_eq_some_iff.1 h
    obtain rfl := Option.some.inj h
    intro a
    fin_cases a
    · exact ⟨readFilter_le h0, readFilter_le k0⟩
    · exact ⟨readFilter_le h1, readFilter_le k1⟩
    · exact ⟨readFilter_le h2, readFilter_le k2⟩
    · exact ⟨readFilter_le h3, readFilter_le k3⟩
  · cases h

theorem applyInputConfig_front {c : InputConfig} (hc : c.FiltersFit) (hu : u.FrontSound) :
    (applyInputConfig c u).FrontSound := by
  obtain ⟨hframe, hinput⟩ := applyInputConfig_spec c u
  have hwritten : (u.filtersWritten c).FrontSound :=
    ⟨hu.running, hc, hu.estop, fun i => (State.input_filtersWritten u c i).symm ▸ hu.settled i, hu.line⟩
  refine hframe.front hwritten ?_ fun i => ?_
  · rw [hinput, if_pos rfl]
    exact hu.estop
  · rw [hinput]
    split
    · exact hu.settled i
    · exact InputRecord.settled_reconfigured (hu.settled i) _ _ _ _

theorem orderSetInputConfig_keeps (hu : u.FrontSound) : (orderSetInputConfig p u).All (OrderKeeps u) := by
  unfold orderSetInputConfig
  refine .ite (.orBadValue_of fun c hc => .accepted ?_) (.refused _)
  have hline : (applyInputConfig c u).line = u.line := (applyInputConfig_spec c u).1.line
  exact ⟨applyInputConfig_front (readInputConfig_filtersFit hc) hu, by rw [hline], by rw [hline]⟩

/-! ### Orders of the axes and the segments -/

theorem setAxis_sameFront (s : State) (a : AxisId) (x : Axis) : SameFront s (s.setAxis a x) := ⟨rfl, rfl, rfl⟩

theorem drawOrder_sameFront {α : Type} (l : List α) (s : State) : SameFront s (drawOrder l s).2 :=
  (stopFrame_drawOrder l s).engine.sameFront

theorem activateHead_sameFront (a : AxisId) (s : State) : SameFront s (activateHead a s) :=
  (activateHead_frame a s).sameFront

theorem enableAxis_sameFront (a : AxisId) (s : State) : SameFront s (enableAxis a s) := by
  unfold enableAxis
  split
  · split
    · exact setAxis_sameFront s a _
    · split
      · exact setAxis_sameFront s a _
      · exact setAxis_sameFront s a _
  · exact .refl s

theorem disableAxis_sameFront (a : AxisId) (s : State) : SameFront s (disableAxis a s) := by
  unfold disableAxis
  split
  case h_1 | h_2 => exact setAxis_sameFront s a _
  all_goals exact .refl s

theorem resumeAxis_sameFront (a : AxisId) (s : State) : SameFront s (resumeAxis a s) := by
  unfold resumeAxis
  split
  · split
    · exact setAxis_sameFront s a _
    · exact (setAxis_sameFront s a _).trans (activateHead_sameFront a _)
  · exact .refl s

theorem stopAxis_sameFront (mode : StopMode) (flush : Bool) (a : AxisId) (s : State) :
    SameFront s (stopAxis mode flush a s) := by
  unfold stopAxis
  split
  case h_1 | h_2 | h_3 => exact (stopHeld_frame a _ _ _ s).engine.sameFront
  case h_4 =>
    split
    · exact (setAxis_sameFront s a _).trans (setAxis_sameFront _ a _)
    · exact .refl s
  case h_5 => exact .refl s
  case h_6 =>
    split
    · exact setAxis_sameFront s a _
    · exact .refl s

theorem flushAxis_sameFront (a : AxisId) (s : State) : SameFront s (flushAxis a s) := by
  unfold flushAxis
  split
  · exact (setAxis_sameFront s a _).trans (setAxis_sameFront _ a _)
  all_goals exact setAxis_sameFront s a _

theorem orderSetAxis_sameFront : (orderSetAxis p u).All (SameFront u) := by
  unfold orderSetAxis
  split
  · exact .orBadValue fun y => .ite (.refused _) (.ite (.refused _) (.ite (.refused _)
      (.accepted (setAxis_sameFront u _ _))))
  · exact .refused _

theorem orderGetAxis_sameFront : (orderGetAxis p u).All (SameFront u) := by
  unfold orderGetAxis
  split
  · exact .orBadValue fun _ => .accepted (.refl u)
  · exact .refused _

theorem orderEnable_sameFront : (orderEnable p u).All (SameFront u) := by
  unfold orderEnable
  split
  · exact .orBadValue fun m => .ite (.refused _)
      (.accepted (foldl_sameFront _ (fun s a => enableAxis_sameFront a s) _ u))
  · exact .refused _

theorem orderDisable_sameFront : (orderDisable p u).All (SameFront u) := by
  unfold orderDisable
  split
  · exact .orBadValue fun m => .ite (.refused _)
      (.accepted (foldl_sameFront _ (fun s a => disableAxis_sameFront a s) _ u))
  · exact .refused _

theorem orderSetPosition_sameFront : (orderSetPosition p u).All (SameFront u) := by
  unfold orderSetPosition
  split
  · exact .orBadValue fun a => .ite (.refused _) (.accepted (setAxis_sameFront u a _))
  · exact .refused _

theorem orderGetAxisState_sameFront : (orderGetAxisState p u).All (SameFront u) := by
  unfold orderGetAxisState
  split
  · exact .orBadValue fun _ => .accepted (.refl u)
  · exact .refused _

theorem orderResume_sameFront : (orderResume p u).All (SameFront u) := by
  unfold orderResume
  split
  · exact .orBadValue fun m => .ite (.refused _) (.ite (.refused _) (.accepted
      ((drawOrder_sameFront _ u).trans (foldl_sameFront _ (fun s a => resumeAxis_sameFront a s) _ _))))
  · exact .refused _

theorem orderStop_sameFront : (orderStop p u).All (SameFront u) := by
  unfold orderStop
  split
  · exact .orBadValue fun y => .accepted
      ((drawOrder_sameFront _ u).trans (foldl_sameFront _ (fun s a => stopAxis_sameFront _ _ a s) _ _))
  · exact .refused _

theorem orderQueueSegment_sameFront : (orderQueueSegment p u).All (SameFront u) := by
  have happend (a : AxisId) (g : Segment) : SameFront u (appendSegment a g u) := setAxis_sameFront u a _
  unfold orderQueueSegment
  split
  · refine .orBadValue fun y => .ite (.refused _) (.ite (.refused _) (.accepted ?_))
    split
    · exact (happend _ _).trans (activateHead_sameFront _ _)
    · exact happend _ _
  · exact .refused _

theorem orderFlushQueue_sameFront : (orderFlushQueue p u).All (SameFront u) := by
  unfold orderFlushQueue
  split
  · exact .orBadValue fun m => .ite (.refused _)
      (.accepted (foldl_sameFront _ (fun s a => flushAxis_sameFront a s) _ u))
  · exact .refused _

theorem orderPeekQueue_sameFront : (orderPeekQueue p u).All (SameFront u) := by
  unfold orderPeekQueue
  split
  · exact .orBadValue fun _ => .accepted (.refl u)
  · exact .refused _

/-! ### Orders of the profiles, the triggers and the outputs -/

theorem orderDefineProfile_sameFront : (orderDefineProfile p u).All (SameFront u) := by
  unfold orderDefineProfile
  split
  · exact .ite (.refused _) (.orBadValue fun _ => .ite (.refused _) (.accepted ⟨rfl, rfl, rfl⟩))
  · exact .refused _

theorem orderReadProfile_sameFront : (orderReadProfile p u).All (SameFront u) := by
  unfold orderReadProfile
  split
  · exact .orBadValue fun _ => .accepted (.refl u)
  · exact .refused _

theorem orderDropProfile_sameFront : (orderDropProfile p u).All (SameFront u) := by
  unfold orderDropProfile
  split
  · exact .orBadValue fun _ => .ite (.refused _) (.accepted ⟨rfl, rfl, rfl⟩)
  · exact .refused _

theorem setTrigger_sameFront (s : State) (i : Fin 24) (x : TriggerSlot) : SameFront s (s.setTrigger i x) :=
  ⟨rfl, rfl, rfl⟩

theorem changeSlots_sameFront (f : SlotState → SlotState) (m : SlotMask) (s : State) :
    SameFront s (changeSlots f m s) := foldl_sameFront _ (fun s i => setTrigger_sameFront s i _) _ s

theorem orderSetTrigger_sameFront : (orderSetTrigger p u).All (SameFront u) := by
  unfold orderSetTrigger
  split
  · exact .orBadValue fun _ => .ite (.refused _) (.accepted (setTrigger_sameFront u _ _))
  · exact .refused _

theorem orderArmTriggers_sameFront : (orderArmTriggers p u).All (SameFront u) := by
  unfold orderArmTriggers
  split
  · exact .ite (.refused _) (.accepted (changeSlots_sameFront _ _ u))
  · exact .refused _

theorem orderDisarmTriggers_sameFront : (orderDisarmTriggers p u).All (SameFront u) := by
  unfold orderDisarmTriggers
  split
  · exact .accepted (changeSlots_sameFront _ _ u)
  · exact .refused _

theorem orderClearTriggers_sameFront : (orderClearTriggers p u).All (SameFront u) := by
  unfold orderClearTriggers
  split
  · exact .ite (.refused _) (.accepted (foldl_sameFront _ (fun s i => setTrigger_sameFront s i _) _ u))
  · exact .refused _

theorem orderReadTrigger_sameFront : (orderReadTrigger p u).All (SameFront u) := by
  unfold orderReadTrigger
  split
  · exact .orBadValue fun _ => .accepted (.refl u)
  · exact .refused _

theorem setOutput_sameFront (s : State) (n : Fin 8) (o : OutputRecord) : SameFront s (s.setOutput n o) :=
  ⟨rfl, rfl, rfl⟩

theorem setChannel_sameFront (s : State) (c : Fin 2) (x : PwmChannel) : SameFront s (s.setChannel c x) :=
  ⟨rfl, rfl, rfl⟩

theorem orderSetOutputs_sameFront : (orderSetOutputs p u).All (SameFront u) := by
  unfold orderSetOutputs
  split
  · exact .ite (.accepted (foldl_sameFront _ (fun s n => setOutput_sameFront s n _) _ u)) (.refused _)
  · exact .refused _

theorem orderPulseOutput_sameFront : (orderPulseOutput p u).All (SameFront u) := by
  unfold orderPulseOutput
  split
  · exact .orBadValue fun _ => .accepted (setOutput_sameFront u _ _)
  · exact .refused _

theorem orderSetOutputConfig_sameFront : (orderSetOutputConfig p u).All (SameFront u) := by
  unfold orderSetOutputConfig
  split
  · exact .ite (.accepted ((foldl_sameFront _ (fun s n => setOutput_sameFront s n _) _ u).trans
      (foldl_sameFront _ (fun s c => setChannel_sameFront s c _) _ _))) (.refused _)
  · exact .refused _

theorem orderSetPwm_sameFront : (orderSetPwm p u).All (SameFront u) := by
  unfold orderSetPwm
  split
  · exact .orBadValue fun _ => .accepted (setChannel_sameFront u _ _)
  · exact .refused _

theorem orderGetPwm_sameFront : (orderGetPwm p u).All (SameFront u) := by
  unfold orderGetPwm
  split
  · refine .orBadValue fun c => ?_
    dsimp only
    split
    · exact .accepted (.refl u)
    · exact .accepted ⟨rfl, rfl, rfl⟩
  · exact .refused _

end Sys2Proof.Machine
end

section
/-! Every command keeps pending acceptances, the supervision timer, the unaddressed condition and the reset condition as
their rules say (O57). -/

namespace Sys2Proof.Machine

variable {s t : State}

/-! ### The part held in reset (R153, R166) -/

/-- A write of an input's pin and accepted level alone keeps the reset values of the input settings. -/
theorem setInput_settingsReset {i : InputId} {r : InputRecord} (h : s.InputSettingsReset)
    (hhigh : r.activeHigh = (s.input i).activeHigh) (hpending : r.pending = (s.input i).pending) :
    (s.setInput i r).InputSettingsReset := by
  obtain ⟨hrecords, haxis, hgeneral, hreport⟩ := h
  have hframe := (rerecords_setInput s i r).frame
  refine ⟨fun j hj => ?_, hframe.axisFilter.trans haxis, hframe.generalFilter.trans hgeneral,
    hframe.reportOnChange.trans hreport⟩
  rw [State.input_setInput]
  split
  · next e =>
    rw [e] at hj ⊢
    exact ⟨hhigh.trans (hrecords i hj).1, hpending.trans (hrecords i hj).2⟩
  · exact hrecords j hj

/-- A change of the input block that keeps the reset values of its settings. -/
theorem InputsOnly.quiet (ho : InputsOnly s t) (h : s.QuietInReset)
    (hsettings : s.InputSettingsReset → t.InputSettingsReset) : t.QuietInReset := by
  rw [InputsOnly] at ho
  generalize t.inputs = b at ho
  subst ho
  intro hr
  obtain ⟨⟨haxes, hjoins, hprofiles, htriggers, houtputs, hpwm, huptime, hs⟩, hreports, hline⟩ := h hr
  exact ⟨⟨haxes, hjoins, hprofiles, htriggers, houtputs, hpwm, huptime, hsettings hs⟩, hreports, hline⟩

/-- An input of a part held in reset may take any level (R166). -/
theorem setInput_invariant {i : InputId} {r : InputRecord} (h : s.FrontInvariant) (hr : s.resetHeld ≠ none)
    (hhigh : r.activeHigh = (s.input i).activeHigh) (hpending : r.pending = (s.input i).pending) :
    (s.setInput i r).FrontInvariant := by
  obtain ⟨⟨hfilters, hestop, -⟩, hline, hquiet⟩ := h
  have hframe := (rerecords_setInput s i r).frame
  refine ⟨⟨?_, ?_, fun hn => absurd (hframe.resetHeld.symm.trans hn) hr⟩, ?_,
    (inputsOnly_setInput s i r).quiet hquiet fun hs => setInput_settingsReset hs hhigh hpending⟩
  · rw [hframe.axisFilter, hframe.generalFilter]
    exact hfilters
  · rw [State.input_setInput]
    split
    · next e => rw [hhigh, ← e]; exact hestop
    · exact hestop
  · rw [State.LineSound, hframe.line]
    exact hline

/-- A strap pin may take any level: the values read at the last reset stay (R153). -/
theorem setStrap_invariant (p : PinId) (high : Bool) (h : s.FrontInvariant) : (setStrap p high s).FrontInvariant := by
  cases p with
  | input i => exact h
  | addressStrap b | speedStrap b =>
    refine ⟨h.inputs, ?_, fun hr => ?_⟩
    · exact h.line
    · obtain ⟨hblocks, hreports, hline⟩ := h.quiet hr
      refine ⟨hblocks, hreports, ?_⟩
      simp only [setStrap]
      rw [hline]
      rfl

theorem execRawChange_invariant {p : PinId} {high : Bool} (hs : exec (.rawChange p high) s = .next t)
    (h : s.FrontInvariant) : t.FrontInvariant := by
  obtain rfl := Host.Outcome.next.inj hs
  cases p with
  | input i =>
    dsimp only
    split
    · exact h
    · split
      · next hr => exact setInput_invariant h (Option.isSome_iff_ne_none.1 hr) rfl rfl
      · next hr =>
        have hrun : s.resetHeld = none := by simpa using hr
        exact ((pinTakes_rerecords i high s).front (h.front hrun) (InputRecord.settled_filtered _ _ _)
          (InputRecord.filtered_wiring _ _ _).2).invariant
  | addressStrap b | speedStrap b => exact setStrap_invariant _ high h

/-! ### Events of a running part -/

theorem State.FrontInvariant.next {u : State} (hs : (Host.Outcome.next u : Host.Outcome State Fault Refusal) = .next t)
    (h : u.FrontInvariant) : t.FrontInvariant := Host.Outcome.next.inj hs ▸ h

theorem acceptRaw_keepsFront (i : InputId) : KeepsFront (acceptRaw i) := fun u h =>
  (acceptRaw_rerecords i u).front h (InputRecord.settled_sampled _) rfl

theorem takeLinkLoss_sameFront (r : Receiver) (s : State) : SameFront s (takeLinkLoss r s) := by
  cases r with
  | engine a =>
    simp only [takeLinkLoss, linkLossAtAxis]
    split
    · exact (stopHeld_frame a _ _ _ s).engine.sameFront
    · exact (stopHeld_frame a _ _ _ s).engine.sameFront
    · exact .refl s
  | queue => exact ⟨rfl, rfl, rfl⟩
  | outputs =>
    exact (foldl_sameFront _ (fun s n => setOutput_sameFront s n _) _ s).trans
      (foldl_sameFront _ (fun s c => setChannel_sameFront s c _) _ _)

/-- The timer that expires is that of an UP link with a timeout (R162). -/
theorem loseLink_front {u : State} (h : u.FrontSound) (hd : u.due u.line.timer = true) : (loseLink u).FrontSound := by
  have htimer : u.line.timer = some u.uptime := by simpa [State.due] using hd
  have hup : u.line.link = .up := by
    cases hl : u.line.link with
    | up => rfl
    | lost => exact nomatch htimer.symm.trans (h.line.lost hl).1
  have htimeout : u.line.timeout ≠ 0 := by
    have hrun := h.line.up hup
    rw [htimer] at hrun
    simpa using hrun.symm
  refine SameFront.front ?_ (h.setLine (h.line.unlinked htimeout))
  exact (drawOrder_sameFront _ _).trans (foldl_sameFront _ (fun s r => takeLinkLoss_sameFront r s) _ _)

/-- A reply begins: the part that has built it is addressed and between frames (R157). -/
theorem execReplyStart_invariant (hs : exec .replyStart s = .next t) (h : s.FrontInvariant) : t.FrontInvariant := by
  refine .next hs (KeepsFront.whenRunning (fun u hu => ?_) h)
  split
  · next r htr =>
    have hbusy : u.line.transmit ≠ .silent := by rw [htr]; exact nofun
    have ha : u.line.addressed = true := by
      by_contra hn
      exact hbusy (hu.line.unaddressed (Bool.not_eq_true _ ▸ hn)).2.2
    exact hu.setLine (hu.line.answering ha (hu.line.replying hbusy) _ u.line.cache false)
  · exact hu
  · exact hu

theorem execReplyEnd_invariant (hs : exec .replyEnd s = .next t) (h : s.FrontInvariant) : t.FrontInvariant := by
  refine .next hs (KeepsFront.whenRunning (fun u hu => ?_) h)
  split
  · split
    · exact resetNow_front _ u
    · exact hu.setLine (hu.line.silent .between)
  · exact hu
  · exact hu

theorem execPoll_invariant {hd : Header} {ack : Option Byte} (hs : exec (.poll hd ack) s = .next t)
    (h : s.FrontInvariant) : t.FrontInvariant := by
  obtain rfl := Host.Outcome.next.inj hs
  refine onFrame_invariant (fun u hu hb => ?_) h
  obtain ⟨timer, w, e, -⟩ := supervise_eq hu.line
  have hsup := supervise_front hu
  split
  · next hst =>
    have hack : SameFront (supervise u) (acknowledge ack (supervise u)) := by
      unfold acknowledge
      split
      · split
        · exact ⟨rfl, rfl, rfl⟩
        · exact .refl _
      · exact .refl _
    refine buildReply_front _ _ _ _ (hack.front hsup) ?_ ?_
    · rw [hack.line, e]; exact addressed_of_station hst
    · rw [hack.line, e]; exact hb
  · exact hsup
  · exact hu

/-! ### Every command -/

theorem exec_invariant {i : Instr} (hs : exec i s = .next t) (h : s.FrontInvariant) : t.FrontInvariant := by
  cases i with
  | identify hd p | getStatus hd p | restart hd p | getTime hd p | getIo hd p =>
    exact .next hs (receiveOrder_same (.noParams (.accepted (.refl _))) h)
  | discardReports hd p =>
    exact .next hs (receiveOrder_same (.noParams (.accepted ⟨rfl, rfl, rfl⟩)) h)
  | getAxis hd p => exact .next hs (receiveOrder_same orderGetAxis_sameFront h)
  | getAxisState hd p => exact .next hs (receiveOrder_same orderGetAxisState_sameFront h)
  | peekQueue hd p => exact .next hs (receiveOrder_same orderPeekQueue_sameFront h)
  | readProfile hd p => exact .next hs (receiveOrder_same orderReadProfile_sameFront h)
  | readTrigger hd p => exact .next hs (receiveOrder_same orderReadTrigger_sameFront h)
  | setAxis hd p => exact .next hs (receiveOrder_same orderSetAxis_sameFront h)
  | enable hd p => exact .next hs (receiveOrder_same orderEnable_sameFront h)
  | disable hd p => exact .next hs (receiveOrder_same orderDisable_sameFront h)
  | setPosition hd p => exact .next hs (receiveOrder_same orderSetPosition_sameFront h)
  | resume hd p => exact .next hs (receiveOrder_same orderResume_sameFront h)
  | stop hd p => exact .next hs (receiveOrder_same orderStop_sameFront h)
  | queueSegment hd p => exact .next hs (receiveOrder_same orderQueueSegment_sameFront h)
  | flushQueue hd p => exact .next hs (receiveOrder_same orderFlushQueue_sameFront h)
  | defineProfile hd p => exact .next hs (receiveOrder_same orderDefineProfile_sameFront h)
  | dropProfile hd p => exact .next hs (receiveOrder_same orderDropProfile_sameFront h)
  | setTrigger hd p => exact .next hs (receiveOrder_same orderSetTrigger_sameFront h)
  | armTriggers hd p => exact .next hs (receiveOrder_same orderArmTriggers_sameFront h)
  | disarmTriggers hd p => exact .next hs (receiveOrder_same orderDisarmTriggers_sameFront h)
  | clearTriggers hd p => exact .next hs (receiveOrder_same orderClearTriggers_sameFront h)
  | setOutputs hd p => exact .next hs (receiveOrder_same orderSetOutputs_sameFront h)
  | pulseOutput hd p => exact .next hs (receiveOrder_same orderPulseOutput_sameFront h)
  | setOutputConfig hd p => exact .next hs (receiveOrder_same orderSetOutputConfig_sameFront h)
  | setPwm hd p => exact .next hs (receiveOrder_same orderSetPwm_sameFront h)
  | getPwm hd p => exact .next hs (receiveOrder_same orderGetPwm_sameFront h)
  | setLink hd p =>
    exact .next hs (receiveOrder_invariant (fun u hu hl ha => orderSetLink_keeps hu hl (ha rfl)) h)
  | getLinkStats hd p => exact .next hs (receiveOrder_invariant (fun u hu _ _ => orderGetLinkStats_keeps hu) h)
  | setInputConfig hd p => exact .next hs (receiveOrder_invariant (fun u hu _ _ => orderSetInputConfig_keeps hu) h)
  | unknownOrder hd p =>
    obtain rfl := Host.Outcome.next.inj hs
    split
    · exact receiveOrder_same (.refused _) h
    · exact h
  | poll hd ack => exact execPoll_invariant hs h
  | ignoredFrame st c p =>
    refine .next hs (onFrame_invariant (fun u hu _ => ?_) h)
    split
    · split
      · exact supervise_front hu
      · exact supervise_front hu
      · exact hu
    · exact hu
  | checkFailure st c p checkA checkB =>
    obtain rfl := Host.Outcome.next.inj hs
    split
    · exact h
    · refine onFrame_invariant (fun u hu _ => ?_) h
      obtain ⟨hc, hrest⟩ := hu.line.stats
      exact hu.setLine (hu.line.setStats ⟨bump_le hc, hrest⟩)
  | escapeError c =>
    obtain rfl := Host.Outcome.next.inj hs
    split
    · exact h
    · exact abandonFrame_invariant _ (fun c ⟨h1, h2, hrest⟩ => ⟨h1, bump_le h2, hrest⟩) h
  | oversizeFrame len =>
    obtain rfl := Host.Outcome.next.inj hs
    split
    · exact abandonFrame_invariant _ (fun c ⟨h1, h2, h3, hrest⟩ => ⟨h1, h2, bump_le h3, hrest⟩) h
    · exact h
  | openingByteAbandonment =>
    exact .next hs (abandonFrame_invariant _ (fun c ⟨h1, h2, h3, h4, h5⟩ => ⟨h1, h2, h3, h4, bump_le h5⟩) h)
  | gapAbandonment =>
    exact .next hs (abandonFrame_invariant _ (fun c ⟨h1, h2, h3, h4, h5⟩ => ⟨h1, h2, h3, bump_le h4, h5⟩) h)
  | replyStart => exact execReplyStart_invariant hs h
  | replyEnd => exact execReplyEnd_invariant hs h
  | replyAbandoned | newFrameBegins =>
    refine .next hs (KeepsFront.whenRunning (fun u hu => ?_) h)
    split
    · exact beginFrame_keepsFront u hu
    · exact hu
  | powerOn high =>
    obtain rfl := Host.Outcome.next.inj hs
    split
    · exact takeReset_invariant _ s
    · exact (resetNow_front _ s).invariant
  | resetPin =>
    obtain rfl := Host.Outcome.next.inj hs
    unfold whenRunning
    split
    · exact h
    · exact takeReset_invariant _ s
  | resetComplete =>
    obtain rfl := Host.Outcome.next.inj hs
    split
    · next c hc => exact (completeReset_front c h (by rw [hc]; exact nofun)).invariant
    · exact h
  | tick => exact .next hs (KeepsFront.whenRunning (.of_same fun u => ⟨rfl, rfl, rfl⟩) h)
  | linkLossEvent =>
    refine .next hs (KeepsFront.whenRunning (fun u hu => ?_) h)
    split
    · next hd => exact loseLink_front hu hd
    · exact hu
  | dwellEnd a | tailIntervalExpiry a =>
    exact .next hs (KeepsFront.whenRunning (.ite (.of_same fun u => (endSegment_frame a _ u).sameFront)) h)
  | inputTimeout a =>
    exact .next hs (KeepsFront.whenRunning (.ite (.of_same fun u => (endHeld_frame a _ u).engine.sameFront)) h)
  | filterAcceptance j => exact .next hs ((acceptRaw_keepsFront j).ite.whenRunning h)
  | rawChange p high => exact execRawChange_invariant hs h
  | stepIssue a => exact .next hs (KeepsFront.whenRunning (.of_same fun u => (issueStep_frame a u).sameFront) h)
  | stepPulseStart a | stepPulseEnd a =>
    exact .next hs (KeepsFront.whenRunning (.of_same fun u => setAxis_sameFront u a _) h)
  | stopWalkEnd a =>
    refine .next hs (KeepsFront.whenRunning (.ite fun u hu => ?_) h)
    split
    · exact (endSegment_frame a _ u).sameFront.front hu
    · exact hu
  | pulseEnd n => exact .next hs (KeepsFront.whenRunning (.ite (.of_same fun u => setOutput_sameFront u n _)) h)
  | periodBoundary c | pwmDutyEnd c =>
    exact .next hs (KeepsFront.whenRunning (.ite (.of_same fun u => setChannel_sameFront u c _)) h)

/-- Settles O57: in a running part every command keeps the inputs and the line as their rules say, a part held in reset
takes no command but the outside's pins, and a reset begins both anew. -/
theorem inputsAndLineStaySound : Obligations.InputsAndLineStaySound := by
  intro s t ⟨hinputs, hline, hquiet⟩ hstep
  obtain rfl | ⟨c, rest, he⟩ := step_cases hstep
  · exact ⟨hinputs, hline, hquiet⟩
  · have ht : t.FrontInvariant := exec_invariant he ⟨hinputs, hline, hquiet⟩
    exact ⟨ht.inputs, ht.line, ht.quiet⟩

end Sys2Proof.Machine
end

section
/-! SET_INPUT_CONFIG (R140, O39): its bytes are read back, and each input's record under the filters and polarities it
brings. -/

namespace Sys2Proof.Machine

variable {s : State} {h : Header} {i : InputId} {c : InputConfig} {r : InputRecord}

/-! ### The bytes (R169) -/

theorem readAxisPolarity_setWidth (v : BitVec 5) : readAxisPolarity (v.setWidth 8) = some v := by
  revert v; decide

theorem readGeneralBits_setWidth (v : BitVec 4) : readGeneralBits (v.setWidth 8) = some v := by
  revert v; decide

theorem readFilter_ofNat {n : Nat} (hn : n ≤ 15) : readFilter (BitVec.ofNat 8 n) = some n := by
  have hmod : (BitVec.ofNat 8 n).toNat = n := Nat.mod_eq_of_lt (by omega)
  rw [readFilter, hmod, if_pos hn]

theorem toList_four {α : Type} (v : Vector α 4) : v.toList = [v[0], v[1], v[2], v[3]] := by
  refine List.ext_getElem (by simp) fun n hn _ => ?_
  have hlt : n < 4 := by simpa using hn
  interval_cases n <;> rfl

theorem eq_four {α : Type} (v : Vector α 4) : #v[v[0], v[1], v[2], v[3]] = v :=
  Vector.toList_inj.1 (toList_four v).symm

/-- The fourteen bytes of a SET_INPUT_CONFIG are read back. -/
theorem readInputConfig_bytes (hc : c.FiltersFit) : readInputConfig c.bytes = some c := by
  have h0 := hc 0
  have h1 := hc 1
  have h2 := hc 2
  have h3 := hc 3
  simp only [Fin.isValue, Fin.getElem_fin, Fin.coe_ofNat_eq_mod] at h0 h1 h2 h3
  simp only [InputConfig.bytes, toList_four, List.map, List.cons_append, List.nil_append, readInputConfig,
    readAxisPolarity_setWidth, readGeneralBits_setWidth, readFilter_ofNat, h0, h1, h2, h3]
  simp only [Option.bind_eq_bind, Option.bind_some, Option.pure_def, eq_four]

theorem execSetInputConfig_eq (ht : s.Takes h) (hf : s.Fresh h) (hc : c.FiltersFit) :
    exec (.setInputConfig h c.bytes) s = .next ((applyInputConfig c s.heard).answered h 0x55 0 []) := by
  refine congrArg Host.Outcome.next (takeOrder_accepted ht hf (by decide) ?_)
  have hlen : c.bytes.length = 14 := by simp [InputConfig.bytes]
  rw [orderSetInputConfig, if_pos hlen, readInputConfig_bytes hc]
  rfl

/-! ### The record of one input (R140) -/

/-- Without a filter, an input whose filter value or polarity has changed has its raw level accepted. -/
theorem InputRecord.reconfigured_zero (hr : r.Settled) {changed high : Bool} (now : Uptime)
    (hchange : changed = true ∨ r.activeHigh ≠ high) :
    (r.reconfigured changed high 0 now).accepted = (r.reconfigured changed high 0 now).raw ∧
      (r.reconfigured changed high 0 now).pending = none := by
  unfold InputRecord.reconfigured
  split
  · next hhigh =>
    rw [if_pos (hchange.resolve_right fun hn => hn hhigh), InputRecord.restarted]
    split
    · next hp =>
      have hnone : r.pending = none := Option.isNone_iff_eq_none.1 hp
      exact ⟨((InputRecord.settled_iff.1 hr).1 hnone).symm, hnone⟩
    · exact ⟨rfl, rfl⟩
  · rw [InputRecord.filtered_zero]
    exact ⟨rfl, rfl⟩

/-- With a filter the accepted level stays through step 1 of R140. -/
theorem InputRecord.restarted_pos (r : InputRecord) {time : Nat} (ht : time ≠ 0) (now : Uptime) :
    r.restarted time now =
      { r with pending := if r.pending.isNone then none else some (now + BitVec.ofNat 32 time) } := by
  unfold InputRecord.restarted
  split
  · next hp => rw [← Option.isNone_iff_eq_none.1 hp]
  · rfl

/-- With a filter the accepted level stays, and the input waits exactly where its levels differ: to the deadline it had
when neither its filter value nor its polarity has changed, else from the order on. -/
theorem InputRecord.reconfigured_pos (hr : r.Settled) (changed high : Bool) {time : Nat} (ht : time ≠ 0)
    (now : Uptime) :
    (r.reconfigured changed high time now).accepted = r.accepted ∧
      (r.reconfigured changed high time now).pending =
        if (r.reconfigured changed high time now).raw = (r.reconfigured changed high time now).accepted then none
        else if r.activeHigh = high ∧ changed = false then r.pending
        else some (now + BitVec.ofNat 32 time) := by
  have hsettled := InputRecord.settled_iff.1 hr
  unfold InputRecord.reconfigured
  by_cases hhigh : r.activeHigh = high
  · rw [if_pos hhigh]
    cases changed with
    | false =>
      refine ⟨rfl, ?_⟩
      by_cases hraw : r.raw = r.accepted
      · simp [hraw, hsettled.2 hraw]
      · simp [hraw, hhigh]
    | true =>
      rw [if_pos rfl, InputRecord.restarted_pos r ht]
      refine ⟨rfl, ?_⟩
      have hnone : r.pending.isNone = true ↔ r.raw = r.accepted := Option.isNone_iff_eq_none.trans hsettled
      simp only [hnone, Bool.true_eq_false, and_false, if_false]
      rfl
  · have haccepted : (if changed then r.restarted time now else r).accepted = r.accepted := by
      split
      · rw [InputRecord.restarted_pos r ht]
      · rfl
    rw [if_neg hhigh, InputRecord.filtered_pos _ ht]
    refine ⟨haccepted, ?_⟩
    simp only [hhigh, false_and, if_false]
    rfl

/-! ### The whole block, where every input has a filter -/

theorem inputsOnly_filterRaw (hi : s.filterTime i ≠ 0) : InputsOnly s (filterRaw i s) := by
  unfold filterRaw
  dsimp only
  split
  · exact inputsOnly_setInput s i _
  · exact inputsOnly_setInput s i _

theorem inputsOnly_restartFilter (hi : s.filterTime i ≠ 0) : InputsOnly s (restartFilter i s) := by
  unfold restartFilter
  dsimp only
  split
  · exact rfl
  · exact inputsOnly_setInput s i _

theorem inputsOnly_reconfigure (changed high : Bool) (hi : s.filterTime i ≠ 0) :
    InputsOnly s (reconfigure i changed high s) := by
  unfold reconfigure
  extract_lets u
  have hu : InputsOnly s u ∧ u.filterTime i = s.filterTime i := by
    unfold u
    split
    · exact ⟨inputsOnly_restartFilter hi, (restartFilter_rerecords i s).frame.filterTime i⟩
    · exact ⟨rfl, rfl⟩
  obtain ⟨hu, hfilter⟩ := hu
  split
  · exact hu
  · refine hu.trans ((inputsOnly_setInput u i _).trans (inputsOnly_filterRaw ?_))
    rw [State.filterTime_setInput, hfilter]
    exact hi

/-- Where every input has a filter, none changes its accepted level at the order, and no order is drawn. -/
theorem inputsOnly_applyInputConfig (hc : ∀ i, c.filterTime i ≠ 0) (s : State) :
    InputsOnly s (applyInputConfig c s) := by
  have hloud : loudInputs c s = [] := by
    refine List.filter_eq_nil_iff.2 fun i _ => ?_
    simp [changesAtOnce, hc i]
  rw [applyInputConfig_eq, hloud]
  have hfold : InputsOnly s ((quietInputs c s).foldl (treatInput c s) (s.filtersWritten c)) ∧
      ∀ i, ((quietInputs c s).foldl (treatInput c s) (s.filtersWritten c)).filterTime i = c.filterTime i :=
    List.foldlRecOn (motive := fun t => InputsOnly s t ∧ ∀ i, t.filterTime i = c.filterTime i) _ _
      ⟨rfl, State.filterTime_filtersWritten s c⟩ fun t ht i _ => by
        obtain ⟨honly, hfilter⟩ := ht
        have hi : t.filterTime i ≠ 0 := hfilter i ▸ hc i
        exact ⟨honly.trans (inputsOnly_reconfigure _ _ hi), fun j =>
          ((reconfigure_rerecords i _ _ t).frame.filterTime j).trans (hfilter j)⟩
  exact hfold.1

/-! ### The statement -/

theorem configFilter_ne_zero (hc : ∀ a : Fin 4, 1 ≤ c.axisFilter[a] ∧ 1 ≤ c.generalFilter[a]) (i : InputId) :
    c.filterTime i ≠ 0 := by
  cases i with
  | axis a l => exact Nat.one_le_iff_ne_zero.1 (hc a).1
  | general j => exact Nat.one_le_iff_ne_zero.1 (hc j).2
  | estop => exact Nat.one_ne_zero

/-- Settles O39: the bytes are read back, and every input is treated once, on its own record. -/
theorem setInputConfigFiltersAfresh : Obligations.SetInputConfigFiltersAfresh := by
  intro h c s ht hf hs hc
  obtain ⟨hframe, hinput⟩ := applyInputConfig_spec c s.heard
  have hexec := execSetInputConfig_eq ht hf hc
  have hfilter (i : InputId) : (applyInputConfig c s.heard).filterTime i = c.filterTime i :=
    (hframe.filterTime i).trans (State.filterTime_filtersWritten s.heard c i)
  have hrecord {i : InputId} (hi : i ∈ configurableInputs) : (applyInputConfig c s.heard).input i =
      (s.input i).reconfigured (s.filterTime i != c.filterTime i) (c.activeHigh i) (c.filterTime i) s.uptime :=
    (hinput i).trans (if_neg (mem_configurableInputs.1 hi))
  have hsettled (i : InputId) : (s.input i).Settled := hs.settled ht.listens.running i
  refine ⟨⟨_, hexec, hframe.line, hframe.axisFilter, hframe.generalFilter, hframe.reportOnChange, hinput .estop,
    fun i hi => ?_⟩, fun hpos => ⟨_, hexec, inputsOnly_applyInputConfig (configFilter_ne_zero hpos) s.heard,
    fun i hi => ?_⟩⟩
  · rw [hrecord hi, hfilter]
    obtain ⟨hpin, hhigh⟩ := (s.input i).reconfigured_wiring (s.filterTime i != c.filterTime i) (c.activeHigh i)
      (c.filterTime i) s.uptime
    refine ⟨hhigh, hpin, fun hzero hchange => ?_⟩
    have hchanged : (s.filterTime i != c.filterTime i) = true ∨ (s.input i).activeHigh ≠ c.activeHigh i :=
      hchange.imp_left fun hn => bne_iff_ne.2 (hzero.symm ▸ hn)
    generalize (s.filterTime i != c.filterTime i) = changed at hchanged ⊢
    rw [hzero]
    exact InputRecord.reconfigured_zero (hsettled i) s.uptime hchanged
  · rw [hrecord hi, hfilter]
    obtain ⟨haccepted, hpending⟩ := InputRecord.reconfigured_pos (hsettled i) (s.filterTime i != c.filterTime i)
      (c.activeHigh i) (configFilter_ne_zero hpos i) s.uptime
    refine ⟨haccepted, hpending.trans ?_⟩
    simp only [((s.input i).reconfigured_wiring _ _ _ _).2, bne_eq_false_iff_eq,
      eq_comm (a := c.activeHigh i), eq_comm (a := c.filterTime i)]

end Sys2Proof.Machine
end

section
/-! RAW_CHANGE (R134, R135, R153, O45): a pin of an input in a running part, and the straps. -/

namespace Sys2Proof.Machine

variable {s : State} {i : InputId} {high : Bool}

/-! ### Pins of inputs (R134, R135) -/

theorem execRawChange_same (hpin : (s.input i).pinHigh = high) : exec (.rawChange (.input i) high) s = .next s :=
  congrArg Host.Outcome.next (if_pos hpin)

theorem execRawChange_running (hr : s.resetHeld = none) (hpin : (s.input i).pinHigh ≠ high) :
    exec (.rawChange (.input i) high) s = .next (pinTakes i high s) := by
  have hheld : ¬ s.resetHeld.isSome = true := by simp [hr]
  exact congrArg Host.Outcome.next ((if_neg hpin).trans (if_neg hheld))

/-- Two levels are alike for the filter: the input waits for nothing. -/
theorem pinTakes_agree (hraw : (high == (s.input i).activeHigh) = (s.input i).accepted) :
    pinTakes i high s = s.setInput i { s.input i with pinHigh := high, pending := none } := by
  have hagree : InputRecord.raw { s.input i with pinHigh := high } = (s.input i).accepted := hraw
  simp only [pinTakes, filterRaw, State.input_setInput_self, hagree, if_true, State.setInput_setInput]

/-- With a filter the input waits out its filter time. -/
theorem pinTakes_waits (hraw : (high == (s.input i).activeHigh) ≠ (s.input i).accepted) (hf : s.filterTime i ≠ 0) :
    pinTakes i high s = s.setInput i { s.input i with
      pinHigh := high, pending := some (s.uptime + BitVec.ofNat 32 (s.filterTime i)) } := by
  have hdiffer : InputRecord.raw { s.input i with pinHigh := high } ≠ (s.input i).accepted := hraw
  simp only [pinTakes, filterRaw, State.input_setInput_self, hdiffer, if_false, State.filterTime_setInput, hf,
    State.deadlineIn, State.setInput_uptime, State.setInput_setInput]

/-- Without a filter the raw level is accepted at the pin's event. -/
theorem pinTakes_accepts (hraw : (high == (s.input i).activeHigh) ≠ (s.input i).accepted) (hf : s.filterTime i = 0) :
    pinTakes i high s = acceptRaw i (s.setInput i { s.input i with pinHigh := high }) := by
  have hdiffer : InputRecord.raw { s.input i with pinHigh := high } ≠ (s.input i).accepted := hraw
  simp only [pinTakes, filterRaw, State.input_setInput_self, hdiffer, if_false, State.filterTime_setInput, hf, if_true]

/-- An acceptance forgets what was pending. -/
theorem acceptRaw_setInput_pending (r : InputRecord) (d : Option Uptime) :
    acceptRaw i (s.setInput i { r with pending := d }) = acceptRaw i (s.setInput i r) := by
  simp only [acceptRaw, State.input_setInput_self, State.setInput_setInput]
  rfl

theorem execFilterAcceptance_due (hr : s.resetHeld = none) (hd : (s.input i).pending = some s.uptime) :
    exec (.filterAcceptance i) s = .next (acceptRaw i s) := by
  refine congrArg Host.Outcome.next ((exec_running hr).trans (if_pos ?_))
  simp [State.due, hd]

/-- Without a filter the pin's event is the acceptance that is due then. -/
theorem execRawChange_accepts (hr : s.resetHeld = none) (hpin : (s.input i).pinHigh ≠ high) (hf : s.filterTime i = 0)
    (hraw : (high == (s.input i).activeHigh) ≠ (s.input i).accepted) :
    exec (.rawChange (.input i) high) s = exec (.filterAcceptance i)
      (s.setInput i { s.input i with pinHigh := high, pending := some s.uptime }) := by
  rw [execRawChange_running hr hpin, pinTakes_accepts hraw hf,
    execFilterAcceptance_due ((State.setInput_resetHeld ..).trans hr)
      (by rw [State.input_setInput_self, State.setInput_uptime])]
  exact congrArg Host.Outcome.next (acceptRaw_setInput_pending { s.input i with pinHigh := high } _).symm

/-! ### Straps (R153) -/

/-- A bit of a word set or cleared, bit by bit. -/
theorem getLsbD_writeBit {w : Nat} (v : BitVec w) (b j : Fin w) (high : Bool) :
    (if high then v ||| BitVec.twoPow w b.val else v &&& ~~~BitVec.twoPow w b.val).getLsbD j.val =
      if j = b then high else v.getLsbD j.val := by
  by_cases e : j = b
  · cases high <;> simp [e]
  · have hv : j.val ≠ b.val := fun h => e (Fin.ext h)
    cases high <;> simp [e, hv]

/-! ### The statement -/

/-- Settles O45: the pin's event by the filter and the levels; a strap's event is a write of one bit. -/
theorem pinChangesWaitInTheFilter : Obligations.PinChangesWaitInTheFilter := by
  refine ⟨fun i high s => execRawChange_same, fun i high s hr hpin hf => ?_, fun i high s hr hpin hf => ?_,
    fun b high s => ⟨_, rfl, fun j => getLsbD_writeBit _ b j high⟩,
    fun b high s => ⟨_, rfl, fun j => getLsbD_writeBit _ b j high⟩⟩
  · rw [execRawChange_running hr hpin]
    split
    · next hraw => rw [pinTakes_agree hraw]
    · next hraw => rw [pinTakes_waits hraw (Nat.one_le_iff_ne_zero.1 hf)]
  · split
    · next hraw => rw [execRawChange_running hr hpin, pinTakes_agree hraw]
    · next hraw =>
      refine ⟨execRawChange_accepts hr hpin hf hraw, _, execRawChange_running hr hpin, ?_, fun j hj => ?_⟩
      · rw [(pinTakes_rerecords i high s).own, hf, InputRecord.filtered_zero]
        rfl
      · rw [(pinTakes_rerecords i high s).input, if_neg hj]

end Sys2Proof.Machine
end

section
/-! GET_IO (R141, R169, O40), and the queries of the line interface and the time base (R143, R164, R165, O19). -/

namespace Sys2Proof.Machine

variable {s : State} {h : Header}

/-! ### GET_IO -/

/-- The level of one line of an axis is in its bit of the axis byte. -/
theorem getLsbD_axisLevelsByte (s : State) (a : AxisId) (n : Fin 8) :
    (axisLevelsByte s a).getLsbD n.val =
      match n.val with
      | 0 => s.accepted (.axis a .limp)
      | 1 => s.accepted (.axis a .limn)
      | 2 => s.accepted (.axis a .slow)
      | 3 => s.accepted (.axis a .home)
      | 4 => s.accepted (.axis a .alarm)
      | _ => false := by
  rw [axisLevelsByte, getLsbD_bitsByte _ _ n.isLt]
  fin_cases n <;> rfl

theorem getLsbD_generalLevelsByte (s : State) (n : Fin 8) :
    (generalLevelsByte s).getLsbD n.val =
      if hn : n.val < 4 then s.accepted (.general ⟨n.val, hn⟩) else if n.val = 7 then s.estopActive else false := by
  rw [generalLevelsByte, getLsbD_bitsByte _ _ n.isLt]
  fin_cases n <;> rfl

theorem Axis.ena_eq (x : Axis) : x.ena = decide (x.state ≠ .disabled) := by
  unfold Axis.ena
  cases x.state <;> rfl

theorem getLsbD_enaByte (s : State) (n : Fin 8) :
    (enaByte s).getLsbD n.val =
      if hn : n.val < 4 then decide ((s.axis ⟨n.val, hn⟩).state ≠ .disabled) else false := by
  rw [enaByte, getLsbD_bitsByte _ _ n.isLt]
  simp only [Axis.ena_eq]
  fin_cases n <;> rfl

theorem execGetIo_eq (ht : s.Takes h) (hf : s.Fresh h) :
    exec (.getIo h []) s = .next (s.heard.answered h 0x56 0
      (axisIds.map (axisLevelsByte s) ++ [generalLevelsByte s, outputLevels s, enaByte s])) :=
  congrArg Host.Outcome.next (takeOrder_accepted ht hf (by decide) rfl)

/-- Settles O40: the seven bytes of the reply, each read bit by bit. -/
theorem getIoShowsTheLevels : Obligations.GetIoShowsTheLevels := by
  intro h s ht hf
  refine ⟨Vector.ofFn (axisLevelsByte s), generalLevelsByte s, outputLevels s, enaByte s, ?_, fun a n => ?_,
    getLsbD_generalLevelsByte s, getLsbD_outputLevels s, getLsbD_enaByte s⟩
  · rw [execGetIo_eq ht hf]
    rfl
  · rw [Fin.getElem_fin, Vector.getElem_ofFn]
    exact getLsbD_axisLevelsByte s a n

/-! ### The queries of the line interface and the time base -/

/-- The four bytes of the uptime are its bits, low byte first (R168). -/
theorem leBytes_uptime (t : Uptime) :
    leBytes 4 t.toNat = [t.extractLsb' 0 8, t.extractLsb' 8 8, t.extractLsb' 16 8, t.extractLsb' 24 8] := by
  have hbyte (k n : Nat) (hn : n = t.toNat / 2 ^ k) : BitVec.ofNat 8 n = t.extractLsb' k 8 := by
    refine BitVec.eq_of_toNat_eq ?_
    rw [BitVec.toNat_ofNat, BitVec.extractLsb'_toNat, Nat.shiftRight_eq_div_pow, hn]
  simp only [leBytes, List.cons.injEq, and_true]
  exact ⟨hbyte 0 _ (by omega), hbyte 8 _ (by omega), hbyte 16 _ (by omega), hbyte 24 _ (by omega)⟩

theorem execIdentify_eq (ht : s.Takes h) (hf : s.Fresh h) :
    exec (.identify h []) s = .next (s.heard.answered h 0x01 0
      [0x4A, 0x01, s.line.address.setWidth 8, s.line.speed.setWidth 8, 4, 48, 8, 24, 32, 8, 2, 4, 60]) :=
  congrArg Host.Outcome.next (takeOrder_accepted ht hf (by decide) rfl)

theorem execGetTime_eq (ht : s.Takes h) (hf : s.Fresh h) :
    exec (.getTime h []) s = .next (s.heard.answered h 0x06 0 (leBytes 4 s.uptime.toNat)) :=
  congrArg Host.Outcome.next (takeOrder_accepted ht hf (by decide) rfl)

theorem execGetLinkStats_eq (clear : Bool) (ht : s.Takes h) (hf : s.Fresh h) :
    exec (.getLinkStats h [flagByte clear]) s = .next
      ((if clear then s.heard.setStats .reset else s.heard).answered h 0x04 0 (statsBytes s.line.stats)) := by
  refine congrArg Host.Outcome.next (takeOrder_accepted ht hf (by decide) ?_)
  rw [orderGetLinkStats, readFlag_flagByte]
  rfl

/-- Settles O19: each query's verdict is what the part holds, answered. -/
theorem lineQueriesAnswer : Obligations.LineQueriesAnswer := by
  intro h s ht hf
  refine ⟨execIdentify_eq ht hf, ?_, ?_, fun clear => (execGetLinkStats_eq clear ht hf).trans rfl⟩
  · exact congrArg Host.Outcome.next (takeOrder_accepted ht hf (by decide) rfl)
  · rw [execGetTime_eq ht hf, leBytes_uptime]

end Sys2Proof.Machine
end

section
/-! The resets (R152, R166, O4, O5): what a reset finds on the pins, what its taking keeps and what its completion
leaves. -/

namespace Sys2Proof.Machine

variable {s t : State} {c : ResetCause} {r : Reply}

/-! ### The taking of a reset -/

/-- The outside keeps its pins while a reset is taken (R136). -/
theorem pinHigh_takeReset (c : ResetCause) (s : State) (i : InputId) :
    ((takeReset c s).input i).pinHigh = (s.input i).pinHigh := by
  rw [input_takeReset]
  rfl

/-- An enabled attention asserts ATTN only for a record in the queue (R151). -/
theorem attnAsserted_of_no_records (h : s.reports.records = []) : s.attnAsserted = false := by
  rw [State.attnAsserted, h]
  exact Bool.and_false _

/-- What the taking of a reset leaves, whatever its cause (R166). -/
theorem takeReset_holds (c : ResetCause) (s : State) :
    (takeReset c s).resetHeld = some c ∧ (takeReset c s).QuietInReset ∧ (takeReset c s).attnAsserted = false ∧
      (takeReset c s).pending = s.pending ∧
      ∀ i ∈ allInputs, ((takeReset c s).input i).pinHigh = (s.input i).pinHigh :=
  ⟨rfl, (takeReset_invariant c s).quiet, attnAsserted_of_no_records rfl, rfl, fun i _ => pinHigh_takeReset c s i⟩

/-- Settles O4: both commands take a reset and leave its completion to the pin. -/
theorem resetPinHoldsThePartInReset : Obligations.ResetPinHoldsThePartInReset :=
  ⟨fun s => ⟨_, rfl, takeReset_holds .power s⟩,
    fun s hr => ⟨_, congrArg Host.Outcome.next (exec_running hr), takeReset_holds .pin s⟩⟩

/-! ### The completion of a reset -/

/-- The input settings stay at their reset values as the pins are sampled (R136). -/
theorem completeReset_settingsReset (c : ResetCause) (h : s.InputSettingsReset) :
    (completeReset c s).InputSettingsReset := by
  obtain ⟨hrecords, haxis, hgeneral, hreport⟩ := h
  refine ⟨fun i hi => ?_, haxis, hgeneral, hreport⟩
  have hinput : (completeReset c s).input i = (s.input i).sampled := input_sampled s i
  rw [hinput]
  exact ⟨(hrecords i hi).1, rfl⟩

/-- The first report after a reset is RESTARTED with number 0 (R152). -/
theorem ReportQueue.enter_reset (b : ReportBody) :
    ReportQueue.reset.enter 0 b =
      { records := [{ number := 0, timestamp := 0, lostBefore := 0, body := b }], nextNumber := 1, dropped := 0
        attention := true } := rfl

/-- A part held in reset at its reset values, whatever it was held for, comes out of it in the reset state (R166). -/
theorem completeReset_justReset (c : ResetCause) (hr : s.resetHeld ≠ none) (hq : s.QuietInReset) :
    s.JustReset c (completeReset c s) := by
  obtain ⟨⟨haxes, hjoins, hprofiles, htriggers, houtputs, hpwm, huptime, hinputs⟩, hreports, hline⟩ := hq hr
  refine ⟨⟨haxes, hjoins, hprofiles, htriggers, houtputs, hpwm, huptime, completeReset_settingsReset c hinputs⟩,
    fun i hi => ?_, ?_, ?_, rfl, rfl, rfl⟩
  · have hinput : (completeReset c s).input i = (s.input i).sampled := input_sampled s i
    obtain ⟨hhigh, -⟩ := hinputs.1 i hi
    rw [hinput, ← hhigh]
    exact ⟨rfl, rfl⟩
  · rw [completeReset, admitReport_reports, hreports, huptime, ReportQueue.enter_reset]
  · rw [completeReset, admitReport_line, hline]
    rfl

/-- A reset that completes at its taking finds what the outside held before it (R166). -/
theorem resetNow_justReset (c : ResetCause) (s : State) : s.JustReset c (resetNow c s) := by
  obtain ⟨hblocks, hlevels, hrest⟩ :=
    completeReset_justReset (s := takeReset c s) c nofun (takeReset_invariant c s).quiet
  refine ⟨hblocks, fun i hi => ?_, hrest⟩
  rw [← pinHigh_takeReset c s i]
  exact hlevels i hi

/-- RESTARTED in the queue asserts ATTN, which a reset enables (R151, R152). -/
theorem attnAsserted_of_justReset (h : s.JustReset c t) : t.attnAsserted = true := by
  obtain ⟨-, -, hreports, -⟩ := h
  rw [State.attnAsserted, hreports]
  rfl

theorem execResetComplete_held (hc : s.resetHeld = some c) :
    exec .resetComplete s = .next (completeReset c s) := by
  refine congrArg Host.Outcome.next ?_
  rw [hc]

/-! ### The reset of a RESTART -/

/-- The reply to a RESTART has gone out (R166). -/
theorem execReplyEnd_restarts {b w : Bool} (hr : s.resetHeld = none) (htr : s.line.transmit = .sending r b w)
    (hrs : r.restarts = true) : exec .replyEnd s = .next (resetNow .order s) := by
  refine congrArg Host.Outcome.next ((exec_running hr).trans ?_)
  rw [htr]
  exact if_pos hrs

/-- The reply to a RESTART is abandoned by an opening byte (R157, R166). -/
theorem beginFrame_restarts (htr : s.line.transmit = .built r) (hrs : r.restarts = true) :
    beginFrame s = resetNow .order s := by
  rw [beginFrame, htr]
  exact if_pos hrs

theorem execReplyAbandoned_restarts (hr : s.resetHeld = none) (htr : s.line.transmit = .built r)
    (hrs : r.restarts = true) (hrec : s.line.receive = .between) :
    exec .replyAbandoned s = .next (resetNow .order s) := by
  refine congrArg Host.Outcome.next ((exec_running hr).trans ?_)
  rw [htr, hrec]
  exact beginFrame_restarts htr hrs

theorem execNewFrameBegins_restarts (hr : s.resetHeld = none) (htr : s.line.transmit = .built r)
    (hrs : r.restarts = true) (hrec : s.line.receive = .between) :
    exec .newFrameBegins s = .next (resetNow .order s) := by
  refine congrArg Host.Outcome.next ((exec_running hr).trans ?_)
  rw [hrec]
  exact beginFrame_restarts htr hrs

/-- Settles O5: every reset ends in the completion of a taken reset, at once or when the pin lets go. -/
theorem everyResetLeavesTheResetState : Obligations.EveryResetLeavesTheResetState := by
  refine ⟨fun s => ⟨_, rfl, resetNow_justReset .power s⟩, fun c s hc hq => ?_, fun r b w s hr htr hrs => ?_,
    fun r s hr htr hrs hrec => ⟨?_, ?_⟩⟩
  · have hreset : s.JustReset c (completeReset c s) := completeReset_justReset c (by rw [hc]; nofun) hq
    exact ⟨_, execResetComplete_held hc, hreset, attnAsserted_of_justReset hreset⟩
  · exact ⟨_, execReplyEnd_restarts hr htr hrs, resetNow_justReset .order s⟩
  · exact ⟨_, execReplyAbandoned_restarts hr htr hrs hrec, resetNow_justReset .order s⟩
  · exact ⟨_, execNewFrameBegins_restarts hr htr hrs hrec, resetNow_justReset .order s⟩

end Sys2Proof.Machine
end

section
/-! The report queue's side of the line: POLL (R148, R149, R172, O16) and DISCARD_REPORTS (R150, R151, O41). -/

namespace Sys2Proof.Machine

variable {s : State} {h : Header}

/-! ### POLL -/

/-- The records that an acknowledgement leaves in the queue (R148). -/
def recordsAfter (ack : Option Byte) (records : List Report) : List Report :=
  match ack, records with
  | some n, r :: rest => if r.number = n then rest else r :: rest
  | _, l => l

/-- Writing the records that are in the queue changes nothing. -/
theorem writeRecords_self {l : List Report} (hl : s.reports.records = l) :
    { s with reports := { s.reports with records := l } } = s := by
  subst hl
  rfl

/-- An acknowledgement removes the head it names, and does nothing else (R148). -/
theorem acknowledge_eq (ack : Option Byte) (s : State) :
    acknowledge ack s =
      { s with reports := { s.reports with records := recordsAfter ack s.reports.records } } := by
  cases ack with
  | none => rfl
  | some n =>
    cases hl : s.reports.records with
    | nil => simp [acknowledge, recordsAfter, hl, writeRecords_self hl]
    | cons r rest =>
      by_cases hn : r.number = n
      · simp [acknowledge, recordsAfter, hl, hn]
      · simp [acknowledge, recordsAfter, hl, hn, writeRecords_self hl]

/-- The payload of a POLL reply (R149, R172): the summary of the part, then the record at the head. -/
theorem pollPayload_eq (s : State) :
    pollPayload s =
      [axisStateCode (s.axis 0).state, axisStateCode (s.axis 1).state, axisStateCode (s.axis 2).state,
        axisStateCode (s.axis 3).state, BitVec.ofNat 8 (48 - s.queued), BitVec.ofNat 8 s.reports.records.length] ++
      (s.reports.records.head?.map reportBytes).getD [] := by
  rw [pollPayload]
  cases s.reports.records with
  | nil => rfl
  | cons r rest => rfl

/-- A POLL for the station is answered once the link has heard it (R156, R162). -/
theorem execPoll_takes (ack : Option Byte) (ht : s.Takes h) :
    exec (.poll h ack) s = .next (answerPoll ack s.heard) := by
  refine congrArg Host.Outcome.next ?_
  rw [onFrame_listens _ ht.listens, addressee_station ht, supervise_framed]

/-- Settles O16: the frame is heard, the acknowledgement is taken, and the reply shows what it left. -/
theorem pollAcknowledgesAndCarriesTheHead : Obligations.PollAcknowledgesAndCarriesTheHead := by
  intro h ack s ht
  rw [execPoll_takes ack ht, answerPoll, acknowledge_eq, pollPayload_eq]
  rfl

/-! ### DISCARD_REPORTS -/

theorem execDiscardReports_eq (ht : s.Takes h) (hf : s.Fresh h) :
    exec (.discardReports h []) s = .next ((discardReports s.heard).answered h 0x60 0
      [BitVec.ofNat 8 s.reports.records.length, BitVec.ofNat 8 s.reports.dropped]) :=
  congrArg Host.Outcome.next (takeOrder_accepted ht hf (by decide) rfl)

/-- Settles O41: the order is accepted, and its answer leaves the emptied queue alone. -/
theorem discardReportsEmptiesTheQueue : Obligations.DiscardReportsEmptiesTheQueue := by
  intro h s ht hf
  exact ⟨_, execDiscardReports_eq ht hf, rfl, attnAsserted_of_no_records rfl⟩

end Sys2Proof.Machine
end

section
/-! The orders seen alike: the decision of each by its code, and what executing, refusing, repeating and broadcasting one
comes to (R156, R159 to R161; O11 to O13). -/

namespace Sys2Proof.Machine

variable {c : OrderCode} {h : Header} {p : List Byte} {s : State}

/-! ### The decision of an order (R161, R169) -/

/-- The decision of an order on its parameter bytes, by its code. -/
def decision : OrderCode → List Byte → State → Verdict
  | .identify => orderIdentify
  | .getStatus => orderGetStatus
  | .setLink => orderSetLink
  | .getLinkStats => orderGetLinkStats
  | .restart => orderRestart
  | .getTime => orderGetTime
  | .setAxis => orderSetAxis
  | .getAxis => orderGetAxis
  | .enable => orderEnable
  | .disable => orderDisable
  | .setPosition => orderSetPosition
  | .getAxisState => orderGetAxisState
  | .resume => orderResume
  | .stop => orderStop
  | .queueSegment => orderQueueSegment
  | .flushQueue => orderFlushQueue
  | .peekQueue => orderPeekQueue
  | .defineProfile => orderDefineProfile
  | .readProfile => orderReadProfile
  | .dropProfile => orderDropProfile
  | .setTrigger => orderSetTrigger
  | .armTriggers => orderArmTriggers
  | .disarmTriggers => orderDisarmTriggers
  | .clearTriggers => orderClearTriggers
  | .readTrigger => orderReadTrigger
  | .setOutputs => orderSetOutputs
  | .pulseOutput => orderPulseOutput
  | .setOutputConfig => orderSetOutputConfig
  | .setPwm => orderSetPwm
  | .getPwm => orderGetPwm
  | .setInputConfig => orderSetInputConfig
  | .getIo => orderGetIo
  | .discardReports => orderDiscardReports

/-- Every order takes its own decision. -/
theorem exec_orderCommand (c : OrderCode) (h : Header) (p : List Byte) (s : State) :
    exec (orderCommand c h p) s = .next (takeOrder c (decision c p) h s) := by
  cases c <;> rfl

theorem unknownPayload_eq (p : List Byte) : unknownPayload p = (p.head?.bind orderOfByte).isNone := by
  cases p <;> rfl

/-- A payload without a known order code is received as an order that is refused (R161 step 1). -/
theorem exec_unknownOrder (hp : (p.head?.bind orderOfByte).isNone = true) :
    exec (.unknownOrder h p) s =
      .next (receiveOrder (echoedCode p) false false (fun _ => .refused .unknownOrder) h s) :=
  congrArg Host.Outcome.next (if_pos ((unknownPayload_eq p).trans hp))

/-! ### Orders that are executed (R157, R159, R161) -/

/-- The outcome code of a verdict (R161, R173). -/
def Verdict.outcome : Verdict → Byte
  | .accepted _ _ => 0
  | .refused k => outcomeCode k

/-- The result fields of a verdict. -/
def Verdict.result : Verdict → List Byte
  | .accepted _ r => r
  | .refused _ => []

theorem replyPayload_eq (code : Byte) (v : Verdict) : replyPayload code v = code :: v.outcome :: v.result := by
  cases v <;> rfl

theorem exec_executed (ht : s.Takes h) (hf : s.Fresh h) :
    exec (orderCommand c h p) s =
      .next (executeOrder (orderByte c) (c == .restart) (decision c p) h.seq s.heard) := by
  rw [exec_orderCommand, takeOrder, receiveOrder_fresh _ _ _ _ ht hf]

/-- A refused order is answered, and changes nothing else (R161). -/
theorem executeOrder_refused {code : Byte} {restarts : Bool} {f : State → Verdict} {k : OutcomeCode}
    (hv : f s = .refused k) : executeOrder code restarts f h.seq s = s.answered h code (outcomeCode k) [] := by
  cases restarts <;>
    simp [executeOrder, hv, State.answered, State.replying, buildReply, State.setTransmit, replyPayload,
      Verdict.stateFrom, Verdict.isAccepted, LineInterface.replyStation]

theorem exec_refused {k : OutcomeCode} (ht : s.Takes h) (hf : s.Fresh h) (hv : decision c p s.heard = .refused k) :
    exec (orderCommand c h p) s = .next (s.heard.answered h (orderByte c) (outcomeCode k) []) := by
  rw [exec_executed ht hf, executeOrder_refused hv]

/-- Settles O13: the payload of an executed order is its verdict's, and a verdict that is not an acceptance leaves the
state it has found. -/
theorem refusedOrdersChangeNothing : Obligations.RefusedOrdersChangeNothing := by
  intro c h p s ht hf
  refine ⟨_, (decision c p s.heard).outcome, (decision c p s.heard).result, exec_executed ht hf, ?_, ⟨_, rfl, ?_⟩, ?_⟩
  · exact congrArg (fun payload => some (h.seq, payload)) (replyPayload_eq _ _)
  · exact replyPayload_eq _ _
  · intro hne
    cases hv : decision c p s.heard with
    | accepted t r => exact absurd (congrArg Verdict.outcome hv) hne
    | refused k => exact ⟨rfl, executeOrder_refused hv⟩

/-! ### Orders that are repeated (R159) -/

/-- Settles O12: the replay cache is asked before the order is looked at. -/
theorem repeatedOrdersAreAnsweredFromTheCache : Obligations.RepeatedOrdersAreAnsweredFromTheCache := by
  intro h payload s ht hc
  refine ⟨fun c p => ?_, fun p hp => ?_⟩
  · rw [exec_orderCommand, takeOrder, receiveOrder_repeated _ _ _ _ ht hc]
  · rw [exec_unknownOrder hp, receiveOrder_repeated _ _ _ _ ht hc]

/-! ### Orders that are broadcast (R160) -/

/-- An order that a station carries out when it is broadcast leaves the line alone. -/
theorem decision_broadcast_line (hb : broadcastOrder c = true) : (decision c p s).All fun t => t.line = s.line := by
  have same : (decision c p s).All (SameFront s) := by
    cases c
    case stop => exact orderStop_sameFront
    case resume => exact orderResume_sameFront
    case setOutputs => exact orderSetOutputs_sameFront
    all_goals cases hb
  exact fun t r hv => (same t r hv).line

/-- An accepted or refused order that is executed differs from its verdict's state in the line alone. -/
theorem executeOrder_line {code : Byte} {restarts : Bool} {f : State → Verdict} {q : BitVec 3} (l : LineInterface) :
    { executeOrder code restarts f q s with line := l } = { (f s).stateFrom s with line := l } := rfl

/-- Settles O11: a broadcast order reaches its decision without the replay cache, and its decision's state is what the
addressed order leaves beside the line. -/
theorem broadcastsAreCarriedOutWithoutReply : Obligations.BroadcastsAreCarriedOutWithoutReply := by
  intro h s h31 hl
  refine ⟨fun c p hb => ?_, fun p hp => ?_, fun ack => ?_, fun c p hb => ?_⟩
  · rw [exec_orderCommand, takeOrder, receiveOrder_broadcast _ _ _ _ hl h31, hb]
    rfl
  · rw [exec_unknownOrder hp, receiveOrder_broadcast _ _ _ _ hl h31]
    rfl
  · refine congrArg Host.Outcome.next ((onFrame_listens _ hl).trans ?_)
    have ha : addressee s.framed.line h.station = .broadcast := if_pos h31
    rw [ha]
    exact supervise_framed s
  · have hline : ((decision c p s.heard).stateFrom s.heard).line = s.heard.line := by
      cases hv : decision c p s.heard with
      | accepted t r => exact decision_broadcast_line hb t r hv
      | refused k => rfl
    refine ⟨(decision c p s.heard).stateFrom s.heard, ?_, hline, fun own ht hf => ⟨_, exec_executed ht hf, ?_⟩⟩
    · rw [exec_orderCommand, takeOrder, receiveOrder_broadcast _ _ _ _ hl h31, hb]
      rfl
    · rw [executeOrder_line]

end Sys2Proof.Machine
end

section
/-! The part held in reset (R166, O6, O7), and the events of the line that are no order: frames that are abandoned and
counted (R155, R156, R164, O17), and the reply that begins, ends and is abandoned (R157, R162, O18). -/

namespace Sys2Proof.Machine

variable {s t : State} {h : Header}

/-! ### Held in reset (R166) -/

theorem whenRunning_held (f : State → State) (hr : s.resetHeld ≠ none) : whenRunning f s = s :=
  if_pos (Option.isSome_iff_ne_none.2 hr)

theorem onFrame_held (f : State → State) (hr : s.resetHeld ≠ none) : onFrame f s = s :=
  if_pos (by rw [Option.isSome_iff_ne_none.2 hr]; rfl)

theorem abandonFrame_held (r : ReceiveSide) (count : LinkStats → LinkStats) (hr : s.resetHeld ≠ none) :
    abandonFrame r count s = s :=
  if_pos (by rw [Option.isSome_iff_ne_none.2 hr]; rfl)

theorem takeOrder_held (c : OrderCode) (f : State → Verdict) (h : Header) (hr : s.resetHeld ≠ none) :
    takeOrder c f h s = s := by
  rw [takeOrder, receiveOrder_eq, onFrame_held _ hr]

/-- An event that has a condition of its own besides, and does nothing in reset. -/
theorem ite_held {c : Prop} [Decidable c] {x y : State} (hx : x = s) (hy : y = s) : (if c then x else y) = s := by
  rw [hx, hy, ite_self]

/-- Settles O6: a complete frame, an abandonment and an event of a running part each ask for the reset first. -/
theorem nothingHappensInReset : Obligations.NothingHappensInReset := by
  intro i s hr hpower hcomplete hpin
  cases i with
  | powerOn b => exact absurd rfl (hpower b)
  | resetComplete => exact absurd rfl hcomplete
  | rawChange q b => exact absurd rfl (hpin q b)
  | openingByteAbandonment | gapAbandonment => exact congrArg Host.Outcome.next (abandonFrame_held _ _ hr)
  | escapeError b => exact congrArg Host.Outcome.next (ite_held rfl (abandonFrame_held _ _ hr))
  | oversizeFrame len => exact congrArg Host.Outcome.next (ite_held (abandonFrame_held _ _ hr) rfl)
  | checkFailure st c q a b => exact congrArg Host.Outcome.next (ite_held rfl (onFrame_held _ hr))
  | unknownOrder hd q => exact congrArg Host.Outcome.next (ite_held (onFrame_held _ hr) rfl)
  | poll | ignoredFrame => exact congrArg Host.Outcome.next (onFrame_held _ hr)
  | replyStart | replyEnd | replyAbandoned | newFrameBegins | linkLossEvent | resetPin | tick | dwellEnd | inputTimeout
  | pulseEnd | filterAcceptance | stepIssue | stepPulseStart | stepPulseEnd | tailIntervalExpiry | stopWalkEnd
  | periodBoundary | pwmDutyEnd =>
    exact congrArg Host.Outcome.next (whenRunning_held _ hr)
  | _ => exact congrArg Host.Outcome.next (takeOrder_held _ _ _ hr)

/-! ### The state after reset (R166) -/

/-- A reset that completes at its taking leaves every block sound. -/
theorem resetNow_sound (c : ResetCause) (s : State) : (resetNow c s).Sound := by
  have hfresh := resetNow_fresh c s
  obtain ⟨-, haxes, hjoins⟩ := book_iff.1 (fresh_book hfresh)
  obtain ⟨hsegments, hpool, hprofiles, hnamed⟩ := poolSound_iff.1 (fresh_poolSound hfresh)
  have htables := resetNow_tablesSound c s
  have hfront := (resetNow_front c s).invariant
  exact
    { segments := hsegments
      pool := hpool
      profiles := hprofiles
      named := hnamed
      axes := haxes
      joins := hjoins
      onPlan := fun a => by rw [fresh_axis hfresh]; rfl
      guarded := fun a hb => by rw [fresh_axis hfresh] at hb; cases hb
      triggers := htables.triggers
      channels := htables.channels
      inputs := hfront.inputs
      reports := htables.reports
      line := hfront.line
      quiet := hfront.quiet }

/-- The state of the part after reset is what a power-on makes of it. -/
theorem resetNow_reset : resetNow .power State.reset = State.reset := by decide

/-- Settles O7: both states are left by a reset that completes at its taking. -/
theorem resetStateIsSound : Obligations.ResetStateIsSound := by
  refine ⟨resetNow_reset ▸ resetNow_sound .power State.reset, fun s t ht => ?_⟩
  obtain rfl := Host.Outcome.next.inj ht
  exact resetNow_sound .power s

/-! ### Frames that are abandoned (R155, R156, R164) -/

/-- A counter in its range counts on, and stops at its top. -/
theorem bump_eq_min {n : Nat} (hn : n ≤ 65535) : bump n = min 65535 (n + 1) := by
  unfold bump addSaturating
  split <;> omega

/-- A frame in progress is abandoned in a running part that is not transmitting. -/
theorem abandonFrame_inFrame (r : ReceiveSide) (count : LinkStats → LinkStats) (hr : s.resetHeld = none)
    (hq : s.transmitting = false) (hin : s.line.receive = .inFrame) :
    abandonFrame r count s = (s.setReceive r).setStats (count s.line.stats) := by
  simp [abandonFrame, hr, hq, hin]

theorem setReceive_self {r : ReceiveSide} (hr : s.line.receive = r) : s.setReceive r = s := by
  subst hr
  rfl

theorem unescaped_eq_none {b : Byte} (h7 : b ≠ 0xF7) (h8 : b ≠ 0xF8) : unescaped b = none := by
  rw [unescaped, if_neg h7, if_neg h8]

/-- Settles O17: each abandonment is one count, and the receive side begins a new frame or is between frames. -/
theorem abandonedFramesAreCounted : Obligations.AbandonedFramesAreCounted := by
  refine ⟨fun s hr hq hin hn => ?_, fun s hr hq hin hn => ?_, fun b s hr hq hin hn h7 h8 hb => ?_,
    fun b s hr hq hin hn hb => ?_, fun st control payload checkA checkB s hl hn hne => ?_⟩ <;>
    refine congrArg Host.Outcome.next ?_ <;> rw [← bump_eq_min hn]
  · rw [abandonFrame_inFrame _ _ hr hq hin, setReceive_self hin]
  · exact abandonFrame_inFrame _ _ hr hq hin
  · rw [unescaped_eq_none h7 h8, if_neg (by simpa [openingByte] using hb)]
    exact abandonFrame_inFrame _ _ hr hq hin
  · exact (if_pos hb).trans (abandonFrame_inFrame _ _ hr hq hin)
  · exact (if_neg hne).trans (onFrame_listens _ hl)

/-! ### The reply on the line (R157, R162) -/

theorem reportsPendingFlag_eq (r : Reply) (s : State) :
    reportsPendingFlag r s =
      match r.kind with
      | .pollReply => decide (6 < r.payload.length)
      | .orderReply => decide (s.reports.records ≠ []) := by
  unfold reportsPendingFlag
  cases r.kind
  · rfl
  · cases s.reports.records <;> rfl

/-- An opening byte abandons a reply that has not begun (R157). -/
theorem beginFrame_built {r : Reply} (htr : s.line.transmit = .built r) (hrs : r.restarts = false) :
    beginFrame s = (s.setTransmit .silent).setReceive .inFrame := by
  simp [beginFrame, htr, hrs]

theorem beginFrame_silent (htr : s.line.transmit = .silent) : beginFrame s = s.setReceive .inFrame := by
  simp [beginFrame, htr]

/-- Settles O18: the line alone changes, as the transmit and the receive side find each other. -/
theorem repliesStartEndAndAreAbandoned : Obligations.RepliesStartEndAndAreAbandoned := by
  refine ⟨fun r s hr htr => ?_, fun r b c s hr htr hrs => ?_, fun r s hr htr hrs hrec => ⟨?_, ?_⟩,
    fun s hr htr hrec => ?_⟩ <;>
    refine congrArg Host.Outcome.next ((exec_running hr).trans ?_)
  · rw [htr]
    dsimp only
    rw [reportsPendingFlag_eq] <;> rfl
  · rw [htr]
    exact if_neg (by simp [hrs])
  · rw [htr, hrec]
    exact beginFrame_built htr hrs
  · rw [hrec]
    exact beginFrame_built htr hrs
  · rw [hrec]
    exact beginFrame_silent htr

end Sys2Proof.Machine
end

section
/-! SET_LINK and RESTART (R163, R166; O20, O21). -/

namespace Sys2Proof.Machine

variable {s : State} {h : Header}

/-- A level byte that is 0 or 1 is read as whether it is 1, and no other is read (R168). -/
theorem readFlag_eq (b : Byte) : readFlag b = if b.toNat ≤ 1 then some (decide (b = 1)) else none := by
  have hnum (n : Byte) : b = n ↔ b.toNat = n.toNat := BitVec.toNat_inj.symm
  by_cases h0 : b = 0
  · simp [readFlag, h0]
  · by_cases h1 : b = 1
    · simp [readFlag, h1]
    · have hlarge : ¬ b.toNat ≤ 1 := by
        rw [hnum] at h0 h1
        change b.toNat ≠ 0 at h0
        change b.toNat ≠ 1 at h1
        omega
      rw [readFlag, if_neg h0, if_neg h1, if_neg hlarge]

/-- The decision of SET_LINK on a timeout and an attention byte (R163). -/
theorem orderSetLink_leBytes {t : Nat} (ht : t < 65536) (b : Byte) (s : State) :
    orderSetLink (leBytes 2 t ++ [b]) s =
      if (t = 0 ∨ (20 ≤ t ∧ t ≤ 60000)) ∧ b.toNat ≤ 1 then .accepted (setLink t (decide (b = 1)) s) []
      else .refused .badValue := by
  have hread : orderSetLink (leBytes 2 t ++ [b]) s =
      orBadValue (do
        pure (← readLinkTimeout (BitVec.ofNat 8 t) (BitVec.ofNat 8 (t / 256)), ← readFlag b))
        fun v => .accepted (setLink v.1 v.2 s) [] := rfl
  rw [hread, readLinkTimeout, le2_ofNat ht, readFlag_eq]
  by_cases hrange : t = 0 ∨ (20 ≤ t ∧ t ≤ 60000)
  · by_cases hb : b.toNat ≤ 1
    · rw [if_pos hrange, if_pos hb, if_pos ⟨hrange, hb⟩]
      rfl
    · rw [if_pos hrange, if_neg hb]
      exact (if_neg fun hc => hb (And.right hc)).symm
  · rw [if_neg hrange]
    exact (if_neg fun hc => hrange (And.left hc)).symm

/-- Settles O20: the decision on the two bytes of the timeout and the byte of the enable, answered. -/
theorem setLinkReplacesTimeoutAndAttention : Obligations.SetLinkReplacesTimeoutAndAttention := by
  intro h t b s ht hf hlt
  have hexec : exec (.setLink h (leBytes 2 t ++ [b])) s =
      .next ((orderSetLink (leBytes 2 t ++ [b]) s.heard).answer s.heard h 0x03) :=
    congrArg Host.Outcome.next (takeOrder_answer _ ht hf (by decide))
  rw [hexec, orderSetLink_leBytes hlt, Verdict.answer_ite]
  split <;> rfl

/-- Settles O21: RESTART is accepted whatever the state, and its reply alone is marked. -/
theorem restartIsAnsweredFirst : Obligations.RestartIsAnsweredFirst := by
  intro h s ht hf
  exact (exec_executed (c := .restart) (p := []) ht hf).trans rfl

end Sys2Proof.Machine
end

section
/-! Frames and the commands they are read as (R154, R156, R160, R161, R167; O9, O10). -/

namespace Sys2Proof.Machine

variable {s : State} {i : Instr} {f : Frame} {c : OrderCode} {h : Header} {p : List Byte}

/-! ### The control byte and the order code (R167, R169) -/

theorem controlKind_controlByte (spare seq : BitVec 3) (k : FrameKind) :
    controlKind (controlByte spare seq k) = k := by
  cases k <;> (revert spare seq; decide)

theorem controlSeq_controlByte (spare seq : BitVec 3) (k : FrameKind) : controlSeq (controlByte spare seq k) = seq := by
  cases k <;> (revert spare seq; decide)

theorem controlSpare_controlByte (spare seq : BitVec 3) (k : FrameKind) :
    controlSpare (controlByte spare seq k) = spare := by
  cases k <;> (revert spare seq; decide)

/-- A header is read back from its frame, whatever the kind (R167). -/
theorem frameHeader_control (h : Header) (k : FrameKind) (p : List Byte) :
    frameHeader { station := h.station, control := h.control k, payload := p } = h := by
  simp only [frameHeader, Header.control, controlSeq_controlByte, controlSpare_controlByte]

theorem orderOfByte_orderByte (c : OrderCode) : orderOfByte (orderByte c) = some c := by
  cases c <;> decide

/-! ### What a valid frame is read as (R156, R161) -/

/-- The command that a frame is read as when its check bytes match. -/
def validCommand (f : Frame) : Instr := commandOfFrame f (checkBytes f.checked).1 (checkBytes f.checked).2

/-- A frame whose check bytes match is read by its kind and its payload. -/
theorem validCommand_eq (f : Frame) :
    validCommand f =
      match controlKind f.control with
      | .order =>
        match f.payload.head?.bind orderOfByte with
        | some k => orderCommand k (frameHeader f) f.payload.tail
        | none => .unknownOrder (frameHeader f) f.payload
      | .poll =>
        if 1 < f.payload.length then .ignoredFrame f.station f.control f.payload
        else .poll (frameHeader f) f.payload.head?
      | .pollReply | .orderReply => .ignoredFrame f.station f.control f.payload := by
  obtain ⟨st, control, payload⟩ := f
  rw [validCommand, commandOfFrame, if_pos Prod.mk.eta.symm]
  cases controlKind control with
  | order =>
    cases payload with
    | nil => rfl
    | cons x l => rfl
  | poll =>
    match payload with
    | [] => rfl
    | [x] => rfl
    | x :: y :: l => exact (if_pos (Nat.succ_lt_succ (Nat.succ_pos _))).symm
  | pollReply => rfl
  | orderReply => rfl

/-- The five kinds of command that stand for a whole frame, and the frame each stands for. -/
inductive Spelled : Instr → Frame → Prop where
  | order (c : OrderCode) (h : Header) (p : List Byte) :
      Spelled (orderCommand c h p) { station := h.station, control := h.control .order, payload := orderByte c :: p }
  | unknownOrder (h : Header) (p : List Byte) :
      Spelled (.unknownOrder h p) { station := h.station, control := h.control .order, payload := p }
  | poll (h : Header) (ack : Option Byte) :
      Spelled (.poll h ack) { station := h.station, control := h.control .poll, payload := ack.toList }
  | ignoredFrame (st control : Byte) (p : List Byte) :
      Spelled (.ignoredFrame st control p) { station := st, control := control, payload := p }
  | checkFailure (st control : Byte) (p : List Byte) (a b : Byte) :
      Spelled (.checkFailure st control p a b) { station := st, control := control, payload := p }

theorem eq_orderCommand (hi : i.order? = some (c, h, p)) : i = orderCommand c h p := by
  cases i
  all_goals cases hi
  all_goals rfl

theorem spelled_of_frame? (hf : i.frame? = some f) : Spelled i f := by
  unfold Instr.frame? at hf
  split at hf
  · next hi =>
    obtain rfl := eq_orderCommand hi
    cases hf
    exact .order _ _ _
  · split at hf
    all_goals cases hf
    all_goals constructor

/-! ### Commands read back from their frames (O9) -/

theorem validCommand_order (c : OrderCode) (h : Header) (p : List Byte) :
    validCommand ⟨h.station, h.control .order, orderByte c :: p⟩ = orderCommand c h p := by
  rw [validCommand_eq, frameHeader_control]
  simp only [Header.control, controlKind_controlByte, List.head?_cons, Option.bind_some, orderOfByte_orderByte,
    List.tail_cons]

theorem validCommand_unknownOrder (h : Header) (hp : (p.head?.bind orderOfByte).isNone = true) :
    validCommand ⟨h.station, h.control .order, p⟩ = .unknownOrder h p := by
  rw [validCommand_eq, frameHeader_control]
  simp only [Header.control, controlKind_controlByte, Option.isNone_iff_eq_none.1 hp]

theorem validCommand_poll (h : Header) (ack : Option Byte) :
    validCommand ⟨h.station, h.control .poll, ack.toList⟩ = .poll h ack := by
  rw [validCommand_eq, frameHeader_control]
  cases ack <;> simp [Header.control, controlKind_controlByte]

theorem commandOfFrame_checkFailure {a b : Byte} (hc : checkBytes f.checked ≠ (a, b)) :
    commandOfFrame f a b = .checkFailure f.station f.control f.payload a b := by
  rw [commandOfFrame, if_neg hc]

/-- Settles O9: kind, header and order code are read back from the frame, and a check failure by its check bytes. -/
theorem commandsAreReadBackFromTheirFrames : Obligations.CommandsAreReadBackFromTheirFrames := by
  intro i f hw hf
  have hrow : i.ofItsRow = true := (Bool.and_eq_true_iff.1 hw).2
  cases spelled_of_frame? hf with
  | order c h p => cases c <;> exact validCommand_order _ h p
  | unknownOrder h p => exact validCommand_unknownOrder h hrow
  | poll h ack => exact validCommand_poll h ack
  | ignoredFrame => trivial
  | checkFailure st control p a b => exact commandOfFrame_checkFailure (bne_iff_ne.1 hrow)

/-! ### Frames that are ignored (O10) -/

/-- What a valid frame with this station byte does when it is ignored for whatever reason: it supervises the link if it is
addressed to the station or broadcast (R156, R162). -/
def overhear (st : Byte) (s : State) : State :=
  match addressee s.line st with
  | .station | .broadcast => supervise s
  | .other => s

/-- Two effects of a frame are alike if they are alike in a part that listens. -/
theorem onFrame_congr {f g : State → State} (hw : s.restartWaiting = false) (hfg : f s.framed = g s.framed) :
    onFrame f s = onFrame g s := by
  by_cases hl : (s.resetHeld.isSome || s.transmitting) = true
  · exact (if_pos hl).trans (if_pos hl).symm
  · have hrun : s.resetHeld = none ∧ s.transmitting = false := by simpa using hl
    have hlisten : s.Listens := ⟨hrun.1, hrun.2, fun _ => hw⟩
    rw [onFrame_listens f hlisten, onFrame_listens g hlisten, hfg]

/-- The address is not touched by a frame's reception, so neither is whom a frame is for. -/
theorem addressee_framed (s : State) (st : Byte) : addressee s.framed.line st = addressee s.line st := rfl

theorem overhear_framed_other {st : Byte} (ha : addressee s.line st = .other) : overhear st s.framed = s.framed := by
  rw [overhear, addressee_framed, ha]

theorem overhear_framed_meant {st : Byte} (ha : addressee s.line st ≠ .other) : overhear st s.framed = s.heard := by
  rw [overhear, addressee_framed, ← supervise_framed]
  cases hst : addressee s.line st
  · rfl
  · rfl
  · exact absurd hst ha

/-- IGNORED_FRAME of a frame that the part ignores. -/
def ignoredEffect (st control : Byte) (p : List Byte) (s : State) : State :=
  if ignores s.line st control p then
    match addressee s.line st with
    | .station | .broadcast => supervise s
    | .other => s
  else s

theorem exec_ignoredFrame (st control : Byte) (p : List Byte) (s : State) :
    exec (.ignoredFrame st control p) s = .next (onFrame (ignoredEffect st control p) s) := rfl

theorem ignoredEffect_framed {st control : Byte} (hi : ignores s.line st control p = true) :
    ignoredEffect st control p s.framed = overhear st s.framed := if_pos hi

/-- An order that the part does not carry out: it is for another station, or it is broadcast and not heard then. -/
theorem orderEffect_overheard {code : Byte} {heard restarts : Bool} {f : State → Verdict}
    (ha : addressee s.line h.station ≠ .station) (hb : addressee s.line h.station = .broadcast → heard = false) :
    orderEffect code heard restarts f h s.framed = overhear h.station s.framed := by
  rw [orderEffect, overhear, addressee_framed]
  cases hst : addressee s.line h.station
  · exact absurd hst ha
  · rw [hb hst]
    rfl
  · rfl

/-- What POLL does once it has been received whole (R148, R156, R160). -/
def pollEffect (h : Header) (ack : Option Byte) (s : State) : State :=
  match addressee s.line h.station with
  | .station => answerPoll ack (supervise s)
  | .broadcast => supervise s
  | .other => s

theorem exec_poll (h : Header) (ack : Option Byte) (s : State) :
    exec (.poll h ack) s = .next (onFrame (pollEffect h ack) s) := rfl

theorem pollEffect_overheard {ack : Option Byte} (ha : addressee s.line h.station ≠ .station) :
    pollEffect h ack s.framed = overhear h.station s.framed := by
  rw [pollEffect, overhear, addressee_framed]
  cases hst : addressee s.line h.station
  · exact absurd hst ha
  · rfl
  · rfl

/-- An ignored ORDER is not for the station, and its order is not one that is carried out when it is broadcast. -/
theorem ignores_order {l : LineInterface} {st control : Byte} (hk : controlKind control = .order)
    (hi : ignores l st control p = true) :
    addressee l st ≠ .station ∧
      (addressee l st = .broadcast → (p.head?.bind orderOfByte).any broadcastOrder = false) := by
  unfold ignores at hi
  split at hi <;> rename_i ha <;> rw [ha]
  · exact ⟨nofun, nofun⟩
  · rw [hk] at hi
    exact ⟨nofun, fun _ => by simpa using hi⟩
  · rw [hk] at hi
    cases hi

/-- An ignored POLL of at most one payload byte is not for the station. -/
theorem ignores_poll {l : LineInterface} {st control : Byte} (hk : controlKind control = .poll)
    (hlen : ¬ 1 < p.length) (hi : ignores l st control p = true) : addressee l st ≠ .station := by
  intro ha
  unfold ignores at hi
  rw [ha, hk] at hi
  exact hlen (of_decide_eq_true hi)

theorem exec_order_overheard (hw : s.restartWaiting = false) (ha : addressee s.line h.station ≠ .station)
    (hb : addressee s.line h.station = .broadcast → broadcastOrder c = false) :
    exec (orderCommand c h p) s = .next (onFrame (overhear h.station) s) := by
  rw [exec_orderCommand, takeOrder, receiveOrder_eq, onFrame_congr hw (orderEffect_overheard ha hb)]

theorem exec_unknownOrder_overheard (hw : s.restartWaiting = false) (hp : (p.head?.bind orderOfByte).isNone = true)
    (ha : addressee s.line h.station ≠ .station) :
    exec (.unknownOrder h p) s = .next (onFrame (overhear h.station) s) := by
  rw [exec_unknownOrder hp, receiveOrder_eq, onFrame_congr hw (orderEffect_overheard ha fun _ => rfl)]

/-- A frame that the part ignores, taken as what its bytes spell (R156, R160). -/
theorem exec_validCommand_ignored (hi : ignores s.line f.station f.control f.payload = true)
    (hw : s.restartWaiting = false) :
    exec (validCommand f) s = .next (onFrame (overhear f.station) s) := by
  have hignored : exec (.ignoredFrame f.station f.control f.payload) s = .next (onFrame (overhear f.station) s) := by
    rw [exec_ignoredFrame, onFrame_congr hw (ignoredEffect_framed hi)]
  rw [validCommand_eq]
  cases hk : controlKind f.control with
  | order =>
    obtain ⟨ha, hb⟩ := ignores_order hk hi
    cases hp : f.payload.head?.bind orderOfByte with
    | none => exact exec_unknownOrder_overheard hw (by rw [hp]; rfl) ha
    | some k => exact exec_order_overheard hw ha fun hst => by simpa [hp] using hb hst
  | poll =>
    dsimp only
    split
    · exact hignored
    · next hlen =>
      rw [exec_poll, onFrame_congr hw (pollEffect_overheard (ignores_poll hk hlen hi))]
      rfl
  | pollReply => exact hignored
  | orderReply => exact hignored

theorem addressee_other {l : LineInterface} {st : Byte} (h31 : st.toNat ≠ 31)
    (hn : ¬ (l.addressed = true ∧ st.toNat = l.address.toNat)) : addressee l st = .other := by
  rw [addressee, if_neg h31, if_neg (by simpa using hn)]

theorem addressee_meant {l : LineInterface} {st : Byte}
    (hm : st.toNat = 31 ∨ (l.addressed = true ∧ st.toNat = l.address.toNat)) : addressee l st ≠ .other := by
  unfold addressee
  split
  · exact nofun
  · next h31 =>
    rw [if_pos (by simpa using hm.resolve_left h31)]
    exact nofun

/-- Settles O10: an ignored frame is overheard, whatever it is taken as. -/
theorem ignoredFramesHaveNoEffectButSupervision : Obligations.IgnoredFramesHaveNoEffectButSupervision := by
  refine ⟨fun f s hi hw => ?_, fun st control p s hl hi => ⟨fun h31 hn => ?_, fun hm => ?_⟩,
    fun i f s hwf hf hl hcheck hign h31 hn => ?_⟩
  · refine (exec_validCommand_ignored hi hw).trans ?_
    rw [exec_ignoredFrame, onFrame_congr hw (ignoredEffect_framed hi)]
  · rw [exec_ignoredFrame, onFrame_listens _ hl, ignoredEffect_framed hi,
      overhear_framed_other (addressee_other h31 hn)]
  · rw [exec_ignoredFrame, onFrame_listens _ hl, ignoredEffect_framed hi, overhear_framed_meant (addressee_meant hm)]
  · have ha := addressee_other h31 hn
    have hns : addressee s.line f.station ≠ .station := by rw [ha]; nofun
    have hnb (b : Bool) : addressee s.line f.station = .broadcast → b = false := by rw [ha]; nofun
    have hrow : i.ofItsRow = true := (Bool.and_eq_true_iff.1 hwf).2
    cases spelled_of_frame? hf with
    | order c h p =>
      rw [exec_orderCommand, takeOrder, receiveOrder_eq, onFrame_listens _ hl,
        orderEffect_overheard hns (hnb _), overhear_framed_other ha]
    | unknownOrder h p =>
      rw [exec_unknownOrder hrow, receiveOrder_eq, onFrame_listens _ hl, orderEffect_overheard hns (hnb _),
        overhear_framed_other ha]
    | poll h ack => rw [exec_poll, onFrame_listens _ hl, pollEffect_overheard hns, overhear_framed_other ha]
    | ignoredFrame st control p => exact absurd rfl (hign st control p)
    | checkFailure st control p a b => exact absurd rfl (hcheck st control p a b)

end Sys2Proof.Machine
end

section
/-! The receive side byte by byte (R154, R155): a frame is read back from the bytes it has on the line (O8). -/

namespace Sys2Proof.Machine

variable {f : Frame} {checkA checkB : Byte}

/-! ### One content byte -/

/-- A byte that stands for itself on the line, and the two that are escaped (R154). -/
theorem escaped_cases (b : Byte) :
    b ≠ openingByte ∧ b ≠ escapeByte ∧ escaped b = [b] ∨
      b = openingByte ∧ escaped b = [escapeByte, 0xF7] ∨ b = escapeByte ∧ escaped b = [escapeByte, 0xF8] := by
  by_cases ho : b = openingByte
  · subst ho
    exact .inr (.inl ⟨rfl, by decide⟩)
  · by_cases he : b = escapeByte
    · subst he
      exact .inr (.inr ⟨rfl, by decide⟩)
    · exact .inl ⟨ho, he, if_neg (by simp [ho, he])⟩

theorem openingByte_notMem_escaped (b : Byte) : openingByte ∉ escaped b := by
  obtain ⟨ho, -, e⟩ | ⟨-, e⟩ | ⟨-, e⟩ := escaped_cases b <;> rw [e]
  · simpa using Ne.symm ho
  · decide
  · decide

theorem receiveBytes_append (r : Assembly) (xs ys : List Byte) :
    receiveBytes r (xs ++ ys) =
      ((receiveBytes (receiveBytes r xs).1 ys).1, (receiveBytes r xs).2 ++ (receiveBytes (receiveBytes r xs).1 ys).2) := by
  induction xs generalizing r with
  | nil => rfl
  | cons x xs ih => simp [receiveBytes, ih]

/-- The bytes of one content byte on the line come to that content byte (R155). -/
theorem receiveBytes_escaped (acc : List Byte) (b : Byte) :
    receiveBytes (.inFrame acc false) (escaped b) = takeContent acc b := by
  obtain ⟨ho, he, e⟩ | ⟨rfl, e⟩ | ⟨rfl, e⟩ := escaped_cases b
  · simp [e, receiveBytes, receiveByte, ho, he]
  · rw [e]
    exact Prod.ext rfl (List.append_nil _)
  · rw [e]
    exact Prod.ext rfl (List.append_nil _)

/-- A frame goes on while no byte of a run of contents completes or abandons it. -/
theorem receiveBytes_open (l acc : List Byte)
    (hopen : ∀ k b rest, l = k ++ b :: rest → takeContent (acc ++ k) b = (.inFrame (acc ++ k ++ [b]) false, [])) :
    receiveBytes (.inFrame acc false) (l.flatMap escaped) = (.inFrame (acc ++ l) false, []) := by
  induction l generalizing acc with
  | nil => simp [receiveBytes]
  | cons b l ih =>
    have hb : takeContent acc b = (.inFrame (acc ++ [b]) false, []) := by simpa using hopen [] b l rfl
    have hl := ih (acc ++ [b]) fun k c rest e => by simpa using hopen (b :: k) c rest (by rw [e]; rfl)
    rw [List.flatMap_cons, receiveBytes_append, receiveBytes_escaped, hb, hl]
    simp

/-! ### A whole frame -/

theorem toNat_payloadLength (hf : f.payload.length ≤ 60) : (BitVec.ofNat 8 f.payload.length).toNat = f.payload.length := by
  rw [BitVec.toNat_ofNat]
  omega

/-- Contents with bytes to come do not complete the frame, and its length byte does not abandon it (R155). -/
theorem takeContent_open (hf : f.payload.length ≤ 60) {k rest : List Byte} {b : Byte}
    (hk : f.checked ++ [checkA] = k ++ b :: rest) :
    takeContent k b = (.inFrame (k ++ [b]) false, []) := by
  have hlen := toNat_payloadLength hf
  match k with
  | [] => rfl
  | [x] => rfl
  | [x, y] =>
    obtain ⟨-, -, rfl, -⟩ : f.station = x ∧ f.control = y ∧ BitVec.ofNat 8 f.payload.length = b ∧
        f.payload ++ [checkA] = rest := by simpa [Frame.checked] using hk
    have hsmall : ¬ maxPayload < f.payload.length := by rw [maxPayload]; omega
    simp only [takeContent, completeFrame, hlen, hsmall]
    simp
  | x :: y :: z :: k =>
    obtain ⟨-, -, rfl, hrest⟩ : f.station = x ∧ f.control = y ∧ BitVec.ofNat 8 f.payload.length = z ∧
        f.payload ++ [checkA] = k ++ b :: rest := by simpa [Frame.checked] using hk
    have hcount := congrArg List.length hrest
    simp only [List.length_append, List.length_cons, List.length_nil] at hcount
    have hmore : ¬ (k ++ [b]).length = f.payload.length + 2 := by simp; omega
    simp only [takeContent, List.cons_append, completeFrame, hlen, if_neg hmore]
    simp

/-- The last check byte completes the frame. -/
theorem takeContent_last (hf : f.payload.length ≤ 60) :
    takeContent (f.checked ++ [checkA]) checkB = (.between, [.complete f checkA checkB]) := by
  have hlen := toNat_payloadLength hf
  have hcomplete : completeFrame (f.checked ++ [checkA] ++ [checkB]) = some (f, checkA, checkB) := by
    simp [Frame.checked, completeFrame, hlen]
  have hlong : ¬ (f.checked ++ [checkA] ++ [checkB]).length = 3 := by simp [Frame.checked]
  simp only [takeContent, hcomplete, hlong, false_and, if_false]

/-- An opening byte begins a frame, and abandons the one in progress (R155). -/
theorem receiveByte_opening (r : Assembly) :
    receiveByte r openingByte =
      (.inFrame [] false, [if r = .between then .newFrame else .openingAbandonment]) := by
  cases r <;> rfl

/-- The bytes of a frame after its opening byte (R154, R155). -/
theorem receiveBytes_contents (hf : f.payload.length ≤ 60) :
    receiveBytes (.inFrame [] false) ((f.checked ++ [checkA, checkB]).flatMap escaped) =
      (.between, [.complete f checkA checkB]) := by
  have hsplit : f.checked ++ [checkA, checkB] = (f.checked ++ [checkA]) ++ [checkB] := by simp
  have hopen := receiveBytes_open (f.checked ++ [checkA]) [] fun k b rest hk => takeContent_open hf hk
  rw [hsplit, List.flatMap_append, receiveBytes_append, hopen, List.flatMap_singleton, receiveBytes_escaped,
    List.nil_append, takeContent_last hf]
  rfl

/-- Settles O8: a frame goes on up to its last check byte, and an escaped byte is never an opening byte. -/
theorem framesAreReadBackFromTheirBytes : Obligations.FramesAreReadBackFromTheirBytes := by
  refine ⟨fun f checkA checkB r hf => ?_, fun f => ⟨_, rfl, fun hm => ?_⟩⟩
  · rw [receiveBytes, receiveByte_opening]
    dsimp only
    rw [receiveBytes_contents hf]
    rfl
  · obtain ⟨b, -, hb⟩ := List.mem_flatMap.1 hm
    exact openingByte_notMem_escaped b hb

end Sys2Proof.Machine
end

section
/-! What the bytes of a field were when a reader answers (R168 to R171): each reader's answer is written with the bytes it
was read from. -/

namespace Sys2Proof.Machine

variable {b b0 b1 b2 : Byte}

/-! ### Single fields (R168, R173) -/

theorem leBytes_le2 (b0 b1 : Byte) : leBytes 2 (le2 b0 b1) = [b0, b1] := by
  have h0 := b0.isLt
  have h1 := b1.isLt
  simp only [leBytes_two, le2, List.cons.injEq, and_true]
  constructor <;> apply BitVec.eq_of_toNat_eq <;> rw [BitVec.toNat_ofNat] <;> omega

theorem leBytes_le3 (b0 b1 b2 : Byte) : leBytes 3 (le3 b0 b1 b2) = [b0, b1, b2] := by
  have h0 := b0.isLt
  have h1 := b1.isLt
  have h2 := b2.isLt
  simp only [leBytes_three, le3, List.cons.injEq, and_true]
  refine ⟨?_, ?_, ?_⟩ <;> apply BitVec.eq_of_toNat_eq <;> rw [BitVec.toNat_ofNat] <;> omega

theorem le3_lt (b0 b1 b2 : Byte) : le3 b0 b1 b2 < 16777216 := by
  have := b0.isLt
  have := b1.isLt
  have := b2.isLt
  unfold le3
  omega

theorem le2_lt (b0 b1 : Byte) : le2 b0 b1 < 65536 := Nat.lt_succ_of_le (le2_le b0 b1)

theorem ofNat_toNat_byte (b : Byte) : BitVec.ofNat 8 b.toNat = b := by
  rw [BitVec.ofNat_toNat, BitVec.setWidth_eq]

theorem positionBytes_readPosition (b0 b1 b2 : Byte) : positionBytes (readPosition b0 b1 b2) = [b0, b1, b2] := by
  rw [positionBytes, readPosition, BitVec.toNat_ofNat, Nat.mod_eq_of_lt (le3_lt b0 b1 b2), leBytes_le3]

/-- A field that is read under a condition. -/
theorem eq_of_guarded {α : Type} {c : Prop} [Decidable c] {x y : α} (h : (if c then some x else none) = some y) :
    c ∧ x = y := by
  obtain ⟨hc, hx⟩ := Option.ite_none_right_eq_some.1 h
  exact ⟨hc, Option.some.inj hx⟩

/-- A field read by its code: this one, or one of the others. -/
theorem code_cases {α : Type} {k : Byte} {x y : α} {r : Option α} (h : (if b = k then some x else r) = some y) :
    b = k ∧ x = y ∨ r = some y := by
  split at h
  · next hb => exact .inl ⟨hb, Option.some.inj h⟩
  · exact .inr h

theorem eq_of_readIndex {n : Nat} {i : Fin n} (h : readIndex n b = some i) : b = BitVec.ofNat 8 i.val := by
  unfold readIndex at h
  split at h
  · obtain rfl := Option.some.inj h
    exact (ofNat_toNat_byte b).symm
  · cases h

theorem eq_of_readFlag {f : Bool} (h : readFlag b = some f) : b = flagByte f := by
  obtain ⟨hb, rfl⟩ | h := code_cases h
  · exact hb
  · obtain ⟨hb, rfl⟩ := eq_of_guarded h
    exact hb

/-- A byte without stray bits is its lower bits. -/
theorem setWidth_extractLsb' {w : Nat} (hw : w ≤ 8) (hb : b.toNat < 2 ^ w) : (b.extractLsb' 0 w).setWidth 8 = b := by
  apply BitVec.eq_of_toNat_eq
  rw [BitVec.toNat_setWidth_of_le hw, BitVec.extractLsb'_toNat, Nat.shiftRight_zero, Nat.mod_eq_of_lt hb]

theorem eq_of_readAxisMask {m : AxisMask} (h : readAxisMask b = some m) : b = m.setWidth 8 := by
  obtain ⟨hb, rfl⟩ := eq_of_guarded h
  exact (setWidth_extractLsb' (by decide) hb).symm

theorem eq_of_readGeneralBits {v : BitVec 4} (h : readGeneralBits b = some v) : b = v.setWidth 8 :=
  eq_of_readAxisMask h

theorem eq_of_readAxisPolarity {v : BitVec 5} (h : readAxisPolarity b = some v) : b = v.setWidth 8 := by
  obtain ⟨hb, rfl⟩ := eq_of_guarded h
  exact (setWidth_extractLsb' (by decide) hb).symm

theorem eq_of_readProfile {q : Option ProfileId} (h : readProfile b = some q) : b = profileByte q := by
  obtain ⟨hb, rfl⟩ | h := code_cases h
  · exact hb
  · obtain ⟨i, hi, rfl⟩ := Option.map_eq_some_iff.1 h
    exact eq_of_readIndex hi

theorem eq_of_readStopMode {m : StopMode} (h : readStopMode b = some m) : b = stopModeCode m := by
  obtain ⟨hb, rfl⟩ | h := code_cases h
  · exact hb
  · obtain ⟨hb, rfl⟩ := eq_of_guarded h
    exact hb

theorem stopModeCode_eq (m : StopMode) : stopModeCode m = flagByte (m == .abrupt) := by cases m <;> rfl

theorem eq_of_readLinkLoss {l : LinkLossAction} (h : readLinkLoss b = some l) : b = linkLossCode l := by
  obtain ⟨hb, rfl⟩ | h := code_cases h
  · exact hb
  · obtain ⟨hb, rfl⟩ | h := code_cases h
    · exact hb
    · obtain ⟨hb, rfl⟩ := eq_of_guarded h
      exact hb

theorem eq_of_readQualifier {q : Qualifier} (h : readQualifier b = some q) : b = qualifierCode q := by
  obtain ⟨hb, rfl⟩ | h := code_cases h
  · exact hb
  · obtain ⟨hb, rfl⟩ | h := code_cases h
    · exact hb
    · obtain ⟨hb, rfl⟩ := eq_of_guarded h
      exact hb

theorem eq_of_readTriggerMode {m : TriggerMode} (h : readTriggerMode b = some m) : b = triggerModeCode m := by
  obtain ⟨hb, rfl⟩ | h := code_cases h
  · exact hb
  · obtain ⟨hb, rfl⟩ := eq_of_guarded h
    exact hb

/-- A quantity is the number its bytes write, whatever its range. -/
theorem eq_of_readRate {n : Nat} (h : readRate b0 b1 = some n) : n = le2 b0 b1 := (eq_of_guarded h).2.symm

theorem eq_of_readCount {n : Nat} (h : readCount b0 b1 b2 = some n) : n = le3 b0 b1 b2 := (eq_of_guarded h).2.symm

theorem eq_of_readTime {n : Nat} (h : readTime b0 b1 = some n) : n = le2 b0 b1 := (eq_of_guarded h).2.symm

theorem eq_of_readFilter {n : Nat} (h : readFilter b = some n) : b = BitVec.ofNat 8 n := by
  obtain ⟨-, rfl⟩ := eq_of_guarded h
  exact (ofNat_toNat_byte b).symm

/-- Bytes that belong to no field are zeros. -/
theorem eq_zero_of_zeroBytes {l : List Byte} {u : Unit} (h : zeroBytes l = some u) : ∀ b ∈ l, b = 0 := by
  obtain ⟨hl, -⟩ := eq_of_guarded h
  exact fun b hb => by simpa using List.all_eq_true.1 hl b hb

theorem and_not_eq_zero_of_readSegmentFlags {allowed : Byte} {u : Unit} (h : readSegmentFlags allowed b = some u) :
    b &&& ~~~allowed = 0 := (eq_of_guarded h).1

/-- The flags that a kind lists, and no others (R170). -/
theorem flags_report (h : b &&& ~~~0x01 = 0) : b = bitsByte [b.getLsbD 0] := by
  revert b
  decide

theorem flags_negative (h : b &&& ~~~0x03 = 0) : b = bitsByte [b.getLsbD 0, b.getLsbD 1] := by
  revert b
  decide

theorem flags_seek (h : b &&& ~~~0x07 = 0) : b = bitsByte [b.getLsbD 0, b.getLsbD 1, b.getLsbD 2] := by
  revert b
  decide

theorem flags_home (h : b &&& ~~~0x1B = 0) :
    b = bitsByte [b.getLsbD 0, b.getLsbD 1, false, b.getLsbD 3, b.getLsbD 4] := by
  revert b
  decide

end Sys2Proof.Machine
end

section
/-! What the bytes of a record were when its reader answers (R169 to R171). -/

namespace Sys2Proof.Machine

theorem eq_ofNat_of_toNat {b : Byte} {n : Nat} (h : b.toNat = n) : b = BitVec.ofNat 8 n := by
  rw [← h, ofNat_toNat_byte]

/-! ### Configurations and triggers (R169, R171) -/

theorem eq_of_readConfig {m0 m1 q0 q1 t0 t1 profile loss disables invert width : Byte} {x : AxisConfig}
    (h : readConfig m0 m1 q0 q1 t0 t1 profile loss disables invert width = some x) :
    x.fitsBytes = true ∧ configBytes x = [m0, m1, q0, q1, t0, t1, profile, loss, disables, invert, width] := by
  simp only [readConfig, Option.bind_eq_bind, Option.bind_eq_some_iff, Option.pure_def, Option.bind_none,
    Option.ite_none_left_eq_some, Option.some.injEq] at h
  obtain ⟨maxRate, hmax, pullIn, hpull, slow, hslow, q, hq, l, hl, d, hd, v, hv, -, rfl⟩ := h
  obtain rfl := eq_of_readRate hmax
  obtain rfl := eq_of_readRate hpull
  obtain rfl := eq_of_readRate hslow
  refine ⟨by simp [AxisConfig.fitsBytes, le2_lt, width.isLt], ?_⟩
  simp only [configBytes, leBytes_le2, ofNat_toNat_byte, eq_of_readProfile hq, eq_of_readLinkLoss hl,
    eq_of_readFlag hd, eq_of_readFlag hv, List.cons_append, List.nil_append]

theorem eq_of_readAction {code a0 a1 a2 : Byte} {act : Action} (h : readAction code a0 a1 a2 = some act) :
    act.fitsBytes = true ∧ actionBytes act = [code, a0, a1, a2] := by
  unfold readAction at h
  simp only [Option.bind_eq_bind, Option.pure_def] at h
  split at h
  case h_8 => cases h
  all_goals simp only [Option.bind_eq_some_iff, Option.some.injEq] at h
  case h_1 hcode | h_2 hcode | h_6 hcode =>
    obtain ⟨n, hn, _, hz, rfl⟩ := h
    obtain ⟨rfl, rfl⟩ : a1 = 0 ∧ a2 = 0 := by simpa using eq_zero_of_zeroBytes hz
    exact ⟨rfl, by rw [actionBytes, eq_ofNat_of_toNat hcode, eq_of_readIndex hn]; rfl⟩
  case h_3 hcode =>
    obtain ⟨n, hn, w, hw, rfl⟩ := h
    obtain rfl := eq_of_readTime hw
    exact ⟨decide_eq_true (le2_lt a1 a2), by
      rw [actionBytes, eq_ofNat_of_toNat hcode, eq_of_readIndex hn, leBytes_le2]; rfl⟩
  case h_4 hcode =>
    obtain ⟨c, hc, rfl⟩ := h
    exact ⟨decide_eq_true (le2_lt a1 a2), by
      rw [actionBytes, eq_ofNat_of_toNat hcode, eq_of_readIndex hc, leBytes_le2]; rfl⟩
  case h_5 hcode =>
    obtain ⟨k, hk, m, hm, _, hz, rfl⟩ := h
    obtain rfl : a2 = 0 := by simpa using eq_zero_of_zeroBytes hz
    exact ⟨rfl, by rw [actionBytes, eq_ofNat_of_toNat hcode, eq_of_readIndex hk, eq_of_readStopMode hm]; rfl⟩
  case h_7 hcode =>
    obtain ⟨_, hz, rfl⟩ := h
    obtain ⟨rfl, rfl, rfl⟩ : a0 = 0 ∧ a1 = 0 ∧ a2 = 0 := by simpa using eq_zero_of_zeroBytes hz
    exact ⟨rfl, by rw [actionBytes, eq_ofNat_of_toNat hcode]; rfl⟩

theorem eq_of_readTriggerFields {axis p0 p1 p2 qualifier mode report code a0 a1 a2 : Byte} {f : TriggerFields}
    (h : readTriggerFields axis p0 p1 p2 qualifier mode report code a0 a1 a2 = some f) :
    f.action.fitsBytes = true ∧
      triggerFieldBytes (some f) = [axis, p0, p1, p2, qualifier, mode, report, code, a0, a1, a2] := by
  simp only [readTriggerFields, Option.bind_eq_bind, Option.bind_eq_some_iff, Option.pure_def, Option.some.injEq] at h
  obtain ⟨a, ha, q, hq, m, hm, r, hr, act, hact, rfl⟩ := h
  obtain ⟨hfits, hbytes⟩ := eq_of_readAction hact
  refine ⟨hfits, ?_⟩
  simp only [triggerFieldBytes, positionBytes_readPosition, hbytes, eq_of_readIndex ha, eq_of_readQualifier hq,
    eq_of_readTriggerMode hm, eq_of_readFlag hr, List.cons_append, List.nil_append]

/-! ### Segments (R170) -/

theorem eq_of_readSegment {a : AxisId} {kind tag flags p0 p1 p2 p3 p4 p5 : Byte} {g : Segment}
    (h : readSegment a kind tag flags p0 p1 p2 p3 p4 p5 = some g) :
    g.work.fitsBytes = true ∧
      segmentBytes a g = [BitVec.ofNat 8 a.val, kind, tag, flags, p0, p1, p2, p3, p4, p5] := by
  unfold readSegment at h
  simp only [Option.bind_eq_bind, Option.pure_def] at h
  split at h
  case h_8 => cases h
  all_goals simp only [Option.bind_eq_some_iff, Option.bind_none, Option.ite_none_left_eq_some, Option.some.injEq] at h
  case h_1 hkind =>
    obtain ⟨_, hflags, count, hcount, rate, hrate, q, hq, rfl⟩ := h
    obtain rfl := eq_of_readCount hcount
    obtain rfl := eq_of_readRate hrate
    exact ⟨by simp [Work.fitsBytes, le2_lt, le3_lt], by
      simp only [segmentBytes, Work.kind, kindCode, segmentFlags, parameterArea, leBytes_le2, leBytes_le3,
        ← flags_negative (and_not_eq_zero_of_readSegmentFlags hflags), eq_ofNat_of_toNat hkind, eq_of_readProfile hq]
      rfl⟩
  case h_2 hkind =>
    obtain ⟨_, hflags, rate, hrate, q, hq, rfl⟩ := h
    obtain rfl := eq_of_readRate hrate
    exact ⟨by simp [Work.fitsBytes, le2_lt], by
      simp only [segmentBytes, Work.kind, kindCode, segmentFlags, parameterArea, leBytes_le2, positionBytes_readPosition,
        ← flags_report (and_not_eq_zero_of_readSegmentFlags hflags), eq_ofNat_of_toNat hkind, eq_of_readProfile hq]
      rfl⟩
  case h_3 hkind =>
    obtain ⟨_, hflags, _, hz, rate, hrate, q, hq, rfl⟩ := h
    obtain rfl := eq_of_readRate hrate
    obtain ⟨rfl, rfl, rfl⟩ : p0 = 0 ∧ p1 = 0 ∧ p2 = 0 := by simpa using eq_zero_of_zeroBytes hz
    exact ⟨by simp [Work.fitsBytes, le2_lt], by
      simp only [segmentBytes, Work.kind, kindCode, segmentFlags, parameterArea, leBytes_le2,
        ← flags_seek (and_not_eq_zero_of_readSegmentFlags hflags), eq_ofNat_of_toNat hkind, eq_of_readProfile hq]
      rfl⟩
  case h_4 hkind =>
    obtain ⟨_, hflags, limit, hlimit, rate, hrate, q, hq, rfl⟩ := h
    obtain rfl := eq_of_readCount hlimit
    obtain rfl := eq_of_readRate hrate
    exact ⟨by simp [Work.fitsBytes, le2_lt, le3_lt], by
      simp only [segmentBytes, Work.kind, kindCode, segmentFlags, parameterArea, leBytes_le2, leBytes_le3,
        ← flags_home (and_not_eq_zero_of_readSegmentFlags hflags), eq_ofNat_of_toNat hkind, eq_of_readProfile hq]
      rfl⟩
  case h_5 hkind =>
    obtain ⟨_, hflags, time, htime, _, hz, rfl⟩ := h
    obtain rfl := eq_of_readTime htime
    obtain ⟨rfl, rfl, rfl, rfl⟩ : p2 = 0 ∧ p3 = 0 ∧ p4 = 0 ∧ p5 = 0 := by simpa using eq_zero_of_zeroBytes hz
    exact ⟨by simp [Work.fitsBytes, le2_lt], by
      simp only [segmentBytes, Work.kind, kindCode, segmentFlags, parameterArea, leBytes_le2,
        ← flags_report (and_not_eq_zero_of_readSegmentFlags hflags), eq_ofNat_of_toNat hkind]
      rfl⟩
  case h_6 hkind =>
    obtain ⟨_, hflags, -, members, hmembers, -, _, hz, rfl⟩ := h
    obtain ⟨rfl, rfl, rfl, rfl⟩ : p2 = 0 ∧ p3 = 0 ∧ p4 = 0 ∧ p5 = 0 := by simpa using eq_zero_of_zeroBytes hz
    exact ⟨decide_eq_true p0.isLt, by
      simp only [segmentBytes, Work.kind, kindCode, segmentFlags, parameterArea, ofNat_toNat_byte,
        ← flags_report (and_not_eq_zero_of_readSegmentFlags hflags), eq_ofNat_of_toNat hkind,
        ← eq_of_readAxisMask hmembers]
      rfl⟩
  case h_7 hkind =>
    obtain ⟨_, hflags, input, hinput, wanted, hwanted, _, hz, rfl⟩ := h
    obtain ⟨rfl, rfl⟩ : p2 = 0 ∧ p5 = 0 := by simpa using eq_zero_of_zeroBytes hz
    exact ⟨decide_eq_true (le2_lt p3 p4), by
      simp only [segmentBytes, Work.kind, kindCode, segmentFlags, parameterArea, leBytes_le2,
        ← flags_report (and_not_eq_zero_of_readSegmentFlags hflags), eq_ofNat_of_toNat hkind,
        eq_of_readIndex hinput, eq_of_readFlag hwanted]
      rfl⟩

/-! ### Profiles and the input configuration (R169) -/

/-- The stages of a DEFINE_PROFILE, three bytes each. -/
theorem eq_of_readStages {bytes : List Byte} {l : List Stage} (h : readStages bytes = some l) :
    (∀ x ∈ l, x.rate < 65536 ∧ x.steps < 256) ∧ stageBytes l = bytes := by
  induction bytes using readStages.induct generalizing l with
  | case1 =>
    cases h
    exact ⟨nofun, rfl⟩
  | case2 r0 r1 n rest ih =>
    simp only [readStages, Option.bind_eq_bind, Option.bind_eq_some_iff, Option.pure_def, Option.bind_none,
      Option.ite_none_left_eq_some, Option.some.injEq] at h
    obtain ⟨rate, hrate, -, stages, hstages, rfl⟩ := h
    obtain rfl := eq_of_readRate hrate
    obtain ⟨hfits, hbytes⟩ := ih hstages
    refine ⟨List.forall_mem_cons.2 ⟨⟨le2_lt r0 r1, n.isLt⟩, hfits⟩, ?_⟩
    rw [stageBytes, List.flatMap_cons, leBytes_le2, ofNat_toNat_byte]
    exact congrArg (fun bs => r0 :: r1 :: n :: bs) hbytes
  | case3 bs h0 h1 =>
    rw [readStages.eq_3 bs h0 h1] at h
    cases h

theorem eq_of_readInputConfig {bytes : List Byte} {c : InputConfig} (h : readInputConfig bytes = some c) :
    c.bytes = bytes := by
  unfold readInputConfig at h
  split at h
  · next a0 a1 a2 a3 g f0 f1 f2 f3 g0 g1 g2 g3 r =>
    obtain ⟨_, h0, h⟩ := Option.bind_eq_some_iff.1 h
    obtain ⟨_, h1, h⟩ := Option.bind_eq_some_iff.1 h
    obtain ⟨_, h2, h⟩ := Option.bind_eq_some_iff.1 h
    obtain ⟨_, h3, h⟩ := Option.bind_eq_some_iff.1 h
    obtain ⟨_, hg, h⟩ := Option.bind_eq_some_iff.1 h
    obtain ⟨_, k0, h⟩ := Option.bind_eq_some_iff.1 h
    obtain ⟨_, k1, h⟩ := Option.bind_eq_some_iff.1 h
    obtain ⟨_, k2, h⟩ := Option.bind_eq_some_iff.1 h
    obtain ⟨_, k3, h⟩ := Option.bind_eq_some_iff.1 h
    obtain ⟨_, l0, h⟩ := Option.bind_eq_some_iff.1 h
    obtain ⟨_, l1, h⟩ := Option.bind_eq_some_iff.1 h
    obtain ⟨_, l2, h⟩ := Option.bind_eq_some_iff.1 h
    obtain ⟨_, l3, h⟩ := Option.bind_eq_some_iff.1 h
    obtain ⟨_, hr, h⟩ := Option.bind_eq_some_iff.1 h
    obtain rfl := Option.some.inj h
    rw [eq_of_readAxisPolarity h0, eq_of_readAxisPolarity h1, eq_of_readAxisPolarity h2, eq_of_readAxisPolarity h3,
      eq_of_readGeneralBits hg, eq_of_readGeneralBits hr, eq_of_readFilter k0, eq_of_readFilter k1,
      eq_of_readFilter k2, eq_of_readFilter k3, eq_of_readFilter l0, eq_of_readFilter l1, eq_of_readFilter l2,
      eq_of_readFilter l3]
    rfl
  · cases h

end Sys2Proof.Machine
end

section
/-! Orders whose parameters have the wrong length, or spell no fields of the order (R161, R168; O14). -/

namespace Sys2Proof.Machine

variable {c : OrderCode} {h : Header} {p : List Byte} {s : State}

/-! ### BAD_LENGTH (R161 step 2) -/

/-- The parameters of a DEFINE_PROFILE, whose length is given by the count they declare (R169). -/
theorem orderDefineProfile_badLength (hl : tabledLength .defineProfile p ≠ some p.length) :
    orderDefineProfile p s = .refused .badLength := by
  match p with
  | [] => rfl
  | [_] => rfl
  | n :: k :: bytes =>
    refine if_pos ?_
    by_cases hk : k.toNat ≤ 19
    · have hlen : 2 + 3 * k.toNat ≠ bytes.length + 2 := by simpa [tabledLength, hk] using hl
      exact .inl (by omega)
    · exact .inr (by omega)

/-- An order looks at the length of its parameters before it looks at anything else. -/
theorem decision_badLength (hl : tabledLength c p ≠ some p.length) : decision c p s = .refused .badLength := by
  cases c with
  | identify | getStatus | restart | getTime | getIo | discardReports =>
    cases p with
    | nil => exact absurd rfl hl
    | cons => rfl
  | defineProfile => exact orderDefineProfile_badLength hl
  | setInputConfig => exact if_neg fun h14 => hl (by rw [h14]; rfl)
  | _ =>
    dsimp only [decision, orderSetLink, orderGetLinkStats, orderSetAxis, orderGetAxis, orderEnable, orderDisable,
      orderSetPosition, orderGetAxisState, orderResume, orderStop, orderQueueSegment, orderFlushQueue, orderPeekQueue,
      orderReadProfile, orderDropProfile, orderSetTrigger, orderArmTriggers, orderDisarmTriggers, orderClearTriggers,
      orderReadTrigger, orderSetOutputs, orderPulseOutput, orderSetOutputConfig, orderSetPwm, orderGetPwm]
    split
    · exact absurd rfl hl
    · rfl

/-! ### BAD_VALUE (R161 step 3) -/

theorem read_of_ne_badValue {α : Type} {x : Option α} {f : α → Verdict} (hv : orBadValue x f ≠ .refused .badValue) :
    ∃ y, x = some y := by
  cases x with
  | none => exact absurd rfl hv
  | some y => exact ⟨y, rfl⟩

theorem reads_of_ne_badValue {α β : Type} {x : Option α} {y : α → Option β} {f : α × β → Verdict}
    (hv : orBadValue (do let a ← x; pure (a, ← y a)) f ≠ .refused .badValue) : ∃ a, x = some a ∧ ∃ b, y a = some b := by
  obtain ⟨_, hv⟩ := read_of_ne_badValue hv
  simp only [Option.bind_eq_bind, Option.bind_eq_some_iff, Option.pure_def] at hv
  obtain ⟨a, ha, b, hb, -⟩ := hv
  exact ⟨a, ha, b, hb⟩

theorem reads_three_of_ne_badValue {α β γ : Type} {x : Option α} {y : Option β} {z : Option γ} {f : α × β × γ → Verdict}
    (hv : orBadValue (do pure (← x, ← y, ← z)) f ≠ .refused .badValue) :
    ∃ a b c, x = some a ∧ y = some b ∧ z = some c := by
  obtain ⟨_, hv⟩ := read_of_ne_badValue hv
  simp only [Option.bind_eq_bind, Option.bind_eq_some_iff, Option.pure_def] at hv
  obtain ⟨a, ha, b, hb, c, hc, -⟩ := hv
  exact ⟨a, b, c, ha, hb, hc⟩

/-- The stages that a DEFINE_PROFILE spells (R21, R169). -/
theorem eq_of_readStageList {k : Byte} {bytes : List Byte} {l : List Stage} (h : readStageList k bytes = some l) :
    (∀ x ∈ l, x.rate < 65536 ∧ x.steps < 256) ∧ stageBytes l = bytes := by
  simp only [readStageList, Option.bind_eq_bind, Option.bind_none, Option.ite_none_left_eq_some,
    Option.bind_eq_some_iff, Option.ite_none_right_eq_some, Option.some.injEq] at h
  obtain ⟨-, stages, hstages, -, rfl⟩ := h
  exact eq_of_readStages hstages

theorem orderDefineProfile_spells (hl : tabledLength .defineProfile p = some p.length)
    (hv : orderDefineProfile p s ≠ .refused .badValue) : Spells .defineProfile p := by
  match p with
  | [] => cases hl
  | [_] => cases hl
  | n :: k :: bytes =>
    have hk : k.toNat ≤ 19 := by
      by_contra hk
      simp [tabledLength, hk] at hl
    have hbytes : bytes.length = 3 * k.toNat := by
      have hlen : 2 + 3 * k.toNat = bytes.length + 2 := by simpa [tabledLength, hk] using hl
      omega
    have hright : ¬ (bytes.length ≠ 3 * k.toNat ∨ 19 < k.toNat) := by omega
    rw [orderDefineProfile, if_neg hright] at hv
    obtain ⟨i, hi, l, hstages⟩ := reads_of_ne_badValue hv
    obtain ⟨hfits, rfl⟩ := eq_of_readStageList hstages
    have hcount : l.length = k.toNat := by rw [length_stageBytes] at hbytes; omega
    exact ⟨i, l, hfits, hcount ▸ hk, by rw [eq_of_readIndex hi, hcount, ofNat_toNat_byte]⟩

/-- The bytes of an order of the right length that is not refused with BAD_VALUE spell fields of the order. -/
theorem spells_of_decision (hl : tabledLength c p = some p.length) (hv : decision c p s ≠ .refused .badValue) :
    Spells c p := by
  have hlen {n : Nat} (hn : tabledLength c p = some n) : p.length = n := Option.some.inj (hl.symm.trans hn)
  cases c with
  | identify | getStatus | restart | getTime | getIo | discardReports | armTriggers | disarmTriggers | clearTriggers
  | setOutputs | setOutputConfig => trivial
  | defineProfile => exact orderDefineProfile_spells hl hv
  | getLinkStats =>
    match p, hlen rfl with
    | [b], _ =>
      obtain ⟨f, hf⟩ := read_of_ne_badValue hv
      exact ⟨f, by rw [eq_of_readFlag hf]⟩
  | getAxis | getAxisState | readProfile | dropProfile | readTrigger | getPwm =>
    match p, hlen rfl with
    | [b], _ =>
      obtain ⟨a, ha⟩ := read_of_ne_badValue hv
      exact ⟨a, by rw [eq_of_readIndex ha]⟩
  | enable | disable | resume | flushQueue =>
    match p, hlen rfl with
    | [b], _ =>
      obtain ⟨m, hm⟩ := read_of_ne_badValue hv
      exact ⟨m, by rw [eq_of_readAxisMask hm]⟩
  | peekQueue =>
    match p, hlen rfl with
    | [b, start], _ =>
      obtain ⟨a, ha⟩ := read_of_ne_badValue hv
      exact ⟨a, start, by rw [eq_of_readIndex ha]⟩
  | setLink =>
    match p, hlen rfl with
    | [t0, t1, att], _ =>
      obtain ⟨t, -, f, hf⟩ := reads_of_ne_badValue hv
      exact ⟨le2 t0 t1, f, le2_lt t0 t1, by rw [leBytes_le2, eq_of_readFlag hf]; rfl⟩
  | stop =>
    match p, hlen rfl with
    | [mask, mode, disposition], _ =>
      obtain ⟨m, x, f, hm, hx, hf⟩ := reads_three_of_ne_badValue hv
      exact ⟨m, x == .abrupt, f, by
        rw [eq_of_readAxisMask hm, eq_of_readStopMode hx, stopModeCode_eq, eq_of_readFlag hf]⟩
  | setAxis =>
    match p, hlen rfl with
    | [axis, m0, m1, q0, q1, t0, t1, profile, loss, disables, invert, width], _ =>
      obtain ⟨a, ha, x, hx⟩ := reads_of_ne_badValue hv
      obtain ⟨hfits, hbytes⟩ := eq_of_readConfig hx
      exact ⟨a, x, hfits, by rw [hbytes, eq_of_readIndex ha]⟩
  | setPosition =>
    match p, hlen rfl with
    | [axis, p0, p1, p2], _ =>
      obtain ⟨a, ha⟩ := read_of_ne_badValue hv
      exact ⟨a, readPosition p0 p1 p2, by rw [positionBytes_readPosition, eq_of_readIndex ha]⟩
  | queueSegment =>
    match p, hlen rfl with
    | [axis, kind, tag, flags, p0, p1, p2, p3, p4, p5], _ =>
      obtain ⟨a, ha, g, hg⟩ := reads_of_ne_badValue hv
      obtain ⟨hfits, hbytes⟩ := eq_of_readSegment hg
      exact ⟨a, g, hfits, by rw [hbytes, eq_of_readIndex ha]⟩
  | setTrigger =>
    match p, hlen rfl with
    | [slot, axis, p0, p1, p2, qualifier, mode, report, code, a0, a1, a2, armNow], _ =>
      obtain ⟨i, f, b, hi, hf, hb⟩ := reads_three_of_ne_badValue hv
      obtain ⟨hfits, hbytes⟩ := eq_of_readTriggerFields hf
      exact ⟨i, f, b, hfits, by rw [hbytes, eq_of_readIndex hi, eq_of_readFlag hb]; rfl⟩
  | pulseOutput =>
    match p, hlen rfl with
    | [output, w0, w1], _ =>
      obtain ⟨n, hn, -⟩ := reads_of_ne_badValue hv
      exact ⟨n, le2 w0 w1, le2_lt w0 w1, by rw [leBytes_le2, eq_of_readIndex hn]⟩
  | setPwm =>
    match p, hlen rfl with
    | [channel, enable, p0, p1, d0, d1], _ =>
      obtain ⟨k, f, -, hk, hf, -⟩ := reads_three_of_ne_badValue hv
      exact ⟨k, f, le2 p0 p1, le2 d0 d1, le2_lt p0 p1, le2_lt d0 d1, by
        rw [leBytes_le2, leBytes_le2, eq_of_readIndex hk, eq_of_readFlag hf]; rfl⟩
  | setInputConfig =>
    have hread : orderSetInputConfig p s = _ := if_pos (hlen rfl)
    rw [decision, hread] at hv
    obtain ⟨x, hx⟩ := read_of_ne_badValue hv
    exact ⟨x, readInputConfig_filtersFit hx, (eq_of_readInputConfig hx).symm⟩

/-- Settles O14: an order is refused by the length of its parameters, by its first byte, or by the fields it reads. -/
theorem malformedOrdersAreRefused : Obligations.MalformedOrdersAreRefused := by
  refine ⟨fun c h p s ht hf hl => exec_refused (k := .badLength) ht hf (decision_badLength hl), fun h p s ht hf hp => ?_,
    fun c h p s ht hf hl hs => exec_refused (k := .badValue) ht hf ?_⟩
  · rw [exec_unknownOrder hp, receiveOrder_fresh _ _ _ _ ht hf, executeOrder_refused rfl]
    rfl
  · by_contra hv
    exact hs (spells_of_decision hl hv)

end Sys2Proof.Machine
end

section
/-! Every reply fits a frame (R154, R169, R172; O15). -/

namespace Sys2Proof.Machine

variable {c : OrderCode} {h : Header} {p : List Byte} {s : State}

/-! ### The lengths of results (R169) -/

theorem length_axisStateBytes (x : Axis) : (axisStateBytes x).length = 28 := by
  unfold axisStateBytes
  cases x.active <;> cases x.lastEnd <;> rfl

/-- At most 20 entries, two bytes each (R17). -/
theorem length_peekEntries_le (q : List Segment) (start : Nat) : (peekEntries q start).length ≤ 40 := by
  have hbytes : (peekEntries q start).length = min 20 (q.length - start) * 2 := by simp [peekEntries]
  omega

theorem length_reportBytes_le (r : Report) : (reportBytes r).length ≤ 18 := by
  obtain ⟨number, timestamp, lostBefore, body⟩ := r
  cases body <;> exact Nat.le_of_ble_eq_true rfl

/-- The summary and one record (R149, R172). -/
theorem length_pollPayload_le (s : State) : (pollPayload s).length ≤ 24 := by
  rw [pollPayload_eq]
  cases s.reports.records with
  | nil => exact Nat.le_of_ble_eq_true rfl
  | cons r l =>
    rw [List.length_append]
    exact Nat.add_le_add_left (length_reportBytes_le r) 6

/-! ### The results of the orders -/

/-- The result of a verdict leaves room for the echoed code and the outcome code in a payload (R154, R167). -/
def Verdict.Fits (v : Verdict) : Prop := v.result.length ≤ 58

theorem Verdict.Fits.refused (k : OutcomeCode) : (Verdict.refused k).Fits := Nat.zero_le _

theorem Verdict.Fits.accepted {t : State} {r : List Byte} (hr : r.length ≤ 58) : (Verdict.accepted t r).Fits := hr

theorem Verdict.Fits.orBadValue {α : Type} {x : Option α} {f : α → Verdict} (hf : ∀ y, (f y).Fits) :
    (orBadValue x f).Fits := by
  cases x with
  | none => exact .refused _
  | some y => exact hf y

theorem Verdict.Fits.noParams {v : Verdict} (hv : v.Fits) : (noParams p v).Fits := by
  cases p with
  | nil => exact hv
  | cons => exact .refused _

theorem Verdict.Fits.ite {q : Prop} [Decidable q] {v w : Verdict} (hv : v.Fits) (hw : w.Fits) :
    (if q then v else w).Fits := by
  split
  · exact hv
  · exact hw

/-- A result of a length that does not depend on the state. -/
theorem Verdict.Fits.short {t : State} {r : List Byte} (hr : Nat.ble r.length 58 = true) : (Verdict.accepted t r).Fits :=
  .accepted (Nat.le_of_ble_eq_true hr)

theorem decision_fits (hp : s.ProfilesSound) : (decision c p s).Fits := by
  cases c with
  | identify | getStatus | restart | getTime | getIo | discardReports => exact .noParams (.short rfl)
  | setInputConfig => exact .ite (.orBadValue fun _ => .short rfl) (.refused _)
  | setLink | getLinkStats | getAxis | pulseOutput | setPwm | stop =>
    dsimp only [decision, orderSetLink, orderGetLinkStats, orderGetAxis, orderPulseOutput, orderSetPwm, orderStop]
    split
    · exact .orBadValue fun _ => .short rfl
    · exact .refused _
  | enable | disable | setPosition | flushQueue | dropProfile | setTrigger =>
    dsimp only [decision, orderEnable, orderDisable, orderSetPosition, orderFlushQueue, orderDropProfile,
      orderSetTrigger]
    split
    · exact .orBadValue fun _ => .ite (.refused _) (.short rfl)
    · exact .refused _
  | resume | queueSegment =>
    dsimp only [decision, orderResume, orderQueueSegment]
    split
    · exact .orBadValue fun _ => .ite (.refused _) (.ite (.refused _) (.short rfl))
    · exact .refused _
  | setAxis =>
    dsimp only [decision, orderSetAxis]
    split
    · exact .orBadValue fun _ => .ite (.refused _) (.ite (.refused _) (.ite (.refused _) (.short rfl)))
    · exact .refused _
  | armTriggers | clearTriggers =>
    dsimp only [decision, orderArmTriggers, orderClearTriggers]
    split
    · exact .ite (.refused _) (.short rfl)
    · exact .refused _
  | disarmTriggers =>
    dsimp only [decision, orderDisarmTriggers]
    split
    · exact .short rfl
    · exact .refused _
  | setOutputs | setOutputConfig =>
    dsimp only [decision, orderSetOutputs, orderSetOutputConfig]
    split
    · exact .ite (.short rfl) (.refused _)
    · exact .refused _
  | defineProfile =>
    dsimp only [decision, orderDefineProfile]
    split
    · exact .ite (.refused _) (.orBadValue fun _ => .ite (.refused _) (.short rfl))
    · exact .refused _
  | getPwm =>
    dsimp only [decision, orderGetPwm]
    split
    · refine .orBadValue fun k => ?_
      split
      · exact .short rfl
      · exact .short rfl
    · exact .refused _
  | getAxisState =>
    dsimp only [decision, orderGetAxisState]
    split
    · exact .orBadValue fun a => .accepted (by rw [length_axisStateBytes]; decide)
    · exact .refused _
  | readTrigger =>
    dsimp only [decision, orderReadTrigger]
    split
    · refine .orBadValue fun i => .accepted ?_
      rw [List.length_append, length_triggerFieldBytes]
      exact Nat.le_of_ble_eq_true rfl
    · exact .refused _
  | peekQueue =>
    dsimp only [decision, orderPeekQueue]
    split
    · refine .orBadValue fun a => .accepted ?_
      rw [List.length_append]
      exact (Nat.add_le_add_left (length_peekEntries_le _ _) 3).trans (by decide)
    · exact .refused _
  | readProfile =>
    dsimp only [decision, orderReadProfile]
    split
    · refine .orBadValue fun k => .accepted ?_
      have hstages : (s.profile k).length ≤ 16 := (hp k).1
      rw [List.length_append, length_stageBytes]
      exact (Nat.add_le_add_left (Nat.mul_le_mul_left 3 hstages) 2).trans (by decide)
    · exact .refused _

/-- Settles O15: a reply has two bytes before its result, and a POLL reply one record behind its summary. -/
theorem repliesFitAFrame : Obligations.RepliesFitAFrame := by
  intro s h hp ht hf
  refine ⟨fun c p => ⟨_, _, exec_executed ht hf, rfl, ?_⟩, fun ack => ⟨_, _, execPoll_takes ack ht, rfl, ?_⟩⟩
  · rw [replyPayload_eq]
    have hfits : (decision c p s.heard).Fits := decision_fits hp
    exact Nat.add_le_add_right hfits 2
  · exact length_pollPayload_le _

end Sys2Proof.Machine
end

section
/-! Every command has a next state and leaves the queue of waiting commands alone (R155, R161; O2). -/

namespace Sys2Proof.Machine

variable {c : OrderCode} {p : List Byte} {s t u : State}

/-! ### Elementary changes and the line -/

theorem Move.pending (h : Move s t) : t.pending = s.pending := by
  cases h with
  | armed i =>
    unfold armSlot
    split <;> rfl
  | input i r => exact State.setInput_pending s i r
  | axis | book | report | fired | output | duty | channelLoss | line => rfl

theorem Moves.pending (h : Moves s t) : t.pending = s.pending := by
  induction h with
  | refl => rfl
  | tail _ hm ih => exact hm.pending.trans ih

theorem LineOnly.pending (h : LineOnly s t) : t.pending = s.pending := by rw [h.rest]

theorem foldl_pending {α : Type} (f : State → α → State) (hf : ∀ s x, (f s x).pending = s.pending) (l : List α)
    (s : State) : (l.foldl f s).pending = s.pending :=
  List.foldlRecOn (motive := fun t => t.pending = s.pending) l f rfl fun t h x _ => (hf t x).trans h

/-! ### The orders -/

theorem filterRaw_pending (i : InputId) (s : State) : (filterRaw i s).pending = s.pending :=
  Moves.pending (filterRaw_moves i s)

theorem reconfigure_pending (i : InputId) (changed high : Bool) (s : State) :
    (reconfigure i changed high s).pending = s.pending := by
  unfold reconfigure
  extract_lets u
  have hu : u.pending = s.pending := by
    unfold u
    split
    · exact Moves.pending (restartFilter_moves i s)
    · rfl
  split
  · exact hu
  · exact (filterRaw_pending i _).trans ((State.setInput_pending _ _ _).trans hu)

theorem applyInputConfig_pending (k : InputConfig) (s : State) : (applyInputConfig k s).pending = s.pending :=
  applyInputConfig_keeps (P := fun t => t.pending = s.pending) k s rfl (fun _ _ h => h) fun t i changed high h =>
    (reconfigure_pending i changed high t).trans h

/-- Whatever an order leaves when it accepts, the waiting commands are those it has found. -/
theorem decision_pending : (decision c p u).All fun t => t.pending = u.pending := by
  cases c with
  | identify | getStatus | restart | getTime | getIo | discardReports => exact .noParams (.accepted rfl)
  | setInputConfig => exact .ite (.orBadValue fun k => .accepted (applyInputConfig_pending k u)) (.refused _)
  | setLink | getAxis | getAxisState | readProfile | readTrigger | peekQueue | pulseOutput | setPwm =>
    dsimp only [decision, orderSetLink, orderGetAxis, orderGetAxisState, orderReadProfile, orderReadTrigger,
      orderPeekQueue, orderPulseOutput, orderSetPwm]
    split
    · exact .orBadValue fun _ => .accepted rfl
    · exact .refused _
  | getLinkStats =>
    dsimp only [decision, orderGetLinkStats]
    split
    · refine .orBadValue fun clear => .accepted ?_
      split <;> rfl
    · exact .refused _
  | getPwm =>
    dsimp only [decision, orderGetPwm]
    split
    · refine .orBadValue fun k => ?_
      split <;> exact .accepted rfl
    · exact .refused _
  | setPosition | setTrigger | dropProfile =>
    dsimp only [decision, orderSetPosition, orderSetTrigger, orderDropProfile]
    split
    · exact .orBadValue fun _ => .ite (.refused _) (.accepted rfl)
    · exact .refused _
  | setAxis =>
    dsimp only [decision, orderSetAxis]
    split
    · exact .orBadValue fun _ => .ite (.refused _) (.ite (.refused _) (.ite (.refused _) (.accepted rfl)))
    · exact .refused _
  | defineProfile =>
    dsimp only [decision, orderDefineProfile]
    split
    · exact .ite (.refused _) (.orBadValue fun _ => .ite (.refused _) (.accepted rfl))
    · exact .refused _
  | enable =>
    dsimp only [decision, orderEnable]
    split
    · exact .orBadValue fun m => .ite (.refused _)
        (.accepted (Moves.pending (foldl_moves _ (fun s a => enableAxis_moves a s) _ u)))
    · exact .refused _
  | disable =>
    dsimp only [decision, orderDisable]
    split
    · exact .orBadValue fun m => .ite (.refused _)
        (.accepted (Moves.pending (foldl_moves _ (fun s a => disableAxis_moves a s) _ u)))
    · exact .refused _
  | flushQueue =>
    dsimp only [decision, orderFlushQueue]
    split
    · exact .orBadValue fun m => .ite (.refused _)
        (.accepted (Moves.pending (foldl_moves _ (fun s a => flushAxis_moves a s) _ u)))
    · exact .refused _
  | resume =>
    dsimp only [decision, orderResume]
    split
    · exact .orBadValue fun m => .ite (.refused _) (.ite (.refused _) (.accepted
        (Moves.pending ((drawOrder_moves _ u).trans (resumeInOrder_moves _ _)))))
    · exact .refused _
  | stop =>
    dsimp only [decision, orderStop]
    split
    · exact .orBadValue fun v => .accepted (Moves.pending ((drawOrder_moves _ u).trans (stopInOrder_moves _ _ _ _)))
    · exact .refused _
  | queueSegment =>
    dsimp only [decision, orderQueueSegment]
    split
    · refine .orBadValue fun v => .ite (.refused _) (.ite (.refused _) (.accepted ?_))
      split
      · exact (Moves.pending (activateHead_moves _ _)).trans rfl
      · rfl
    · exact .refused _
  | armTriggers | clearTriggers =>
    dsimp only [decision, orderArmTriggers, orderClearTriggers, changeSlots]
    split
    · exact .ite (.refused _) (.accepted (foldl_pending _ (fun _ _ => by rfl) _ u))
    · exact .refused _
  | disarmTriggers =>
    dsimp only [decision, orderDisarmTriggers, changeSlots]
    split
    · exact .accepted (foldl_pending _ (fun _ _ => by rfl) _ u)
    · exact .refused _
  | setOutputs =>
    dsimp only [decision, orderSetOutputs]
    split
    · exact .ite (.accepted (foldl_pending _ (fun _ _ => by rfl) _ u)) (.refused _)
    · exact .refused _
  | setOutputConfig =>
    dsimp only [decision, orderSetOutputConfig, applyOutputConfig]
    split
    · exact .ite (.accepted ((foldl_pending _ (fun _ _ => by rfl) _ _).trans (foldl_pending _ (fun _ _ => by rfl) _ u)))
        (.refused _)
    · exact .refused _

/-! ### Frames and events (R155 to R157, R162, R166) -/

/-- An operation that leaves the queue of waiting commands alone. -/
def KeepsQueue (f : State → State) : Prop := ∀ u, (f u).pending = u.pending

theorem KeepsQueue.of_moves {f : State → State} (hf : ∀ u, Moves u (f u)) : KeepsQueue f := fun u => (hf u).pending

/-- An event that acts under a condition. -/
theorem KeepsQueue.ite {q : State → Bool} {f : State → State} (hf : KeepsQueue f) :
    KeepsQueue fun s => if q s then f s else s := by
  intro u
  dsimp only
  split
  · exact hf u
  · rfl

theorem KeepsQueue.whenRunning {f : State → State} (hf : KeepsQueue f) : KeepsQueue (whenRunning f) := by
  intro u
  unfold Machine.whenRunning
  split
  · rfl
  · exact hf u

theorem keepsQueue_beginFrame : KeepsQueue beginFrame := by
  intro u
  obtain ⟨-, e⟩ | hl := beginFrame_cases u
  · rw [e]
    rfl
  · exact hl.pending

theorem KeepsQueue.onFrame {f : State → State} (hf : KeepsQueue f) : KeepsQueue (onFrame f) := by
  intro u
  obtain ⟨-, e⟩ | ⟨v, hl, e | e⟩ := onFrame_cases f u
  · rw [e]
    rfl
  · rw [e]
    exact hl.pending
  · rw [e]
    exact (hf v).trans hl.pending

theorem keepsQueue_receiveOrder {code : Byte} {heard restarts : Bool} {f : State → Verdict} {h : Header}
    (hf : ∀ u, (f u).All fun t => t.pending = u.pending) : KeepsQueue (receiveOrder code heard restarts f h) := by
  refine KeepsQueue.onFrame (f := orderEffect code heard restarts f h) fun u => ?_
  obtain hl | ⟨v, w, r, hv, hw, hl⟩ := orderEffect_cases code heard restarts f h u
  · exact hl.pending
  · exact hl.pending.trans ((hf v w r hw).trans hv.pending)

theorem keepsQueue_pollEffect (h : Header) (ack : Option Byte) : KeepsQueue (pollEffect h ack) := by
  intro u
  have hs := (supervise_lineOnly u).pending
  unfold pollEffect
  split
  · rw [answerPoll, acknowledge_eq]
    exact hs
  · exact hs
  · rfl

theorem keepsQueue_ignoredEffect (st control : Byte) (p : List Byte) : KeepsQueue (ignoredEffect st control p) := by
  intro u
  unfold ignoredEffect
  split
  · split
    · exact (supervise_lineOnly u).pending
    · exact (supervise_lineOnly u).pending
    · rfl
  · rfl

/-! ### Every command -/

/-- A pin's change is a matter of its input or of the straps. -/
theorem exec_rawChange_pending (p : PinId) (high : Bool) (s : State) :
    ∃ t, exec (.rawChange p high) s = .next t ∧ t.pending = s.pending := by
  refine ⟨_, rfl, ?_⟩
  cases p with
  | input i =>
    dsimp only
    split
    · rfl
    · split
      · exact State.setInput_pending _ _ _
      · exact (filterRaw_pending i _).trans (State.setInput_pending _ _ _)
  | addressStrap | speedStrap => rfl

/-- The frames that carry no known order, and the events. -/
theorem exec_other_pending {i : Instr} (hi : i.order? = none) (s : State) :
    ∃ t, exec i s = .next t ∧ t.pending = s.pending := by
  cases i with
  | unknownOrder h p =>
    refine ⟨_, rfl, ?_⟩
    split
    · exact keepsQueue_receiveOrder (fun _ => .refused _) s
    · rfl
  | poll h ack => exact ⟨_, exec_poll h ack s, (keepsQueue_pollEffect h ack).onFrame s⟩
  | ignoredFrame st c p => exact ⟨_, exec_ignoredFrame st c p s, (keepsQueue_ignoredEffect st c p).onFrame s⟩
  | checkFailure st c p checkA checkB =>
    refine ⟨_, rfl, ?_⟩
    split
    · rfl
    · exact KeepsQueue.onFrame (fun _ => by rfl) s
  | escapeError =>
    refine ⟨_, rfl, ?_⟩
    split
    · rfl
    · exact (abandonFrame_lineOnly _ _ s).pending
  | oversizeFrame =>
    refine ⟨_, rfl, ?_⟩
    split
    · exact (abandonFrame_lineOnly _ _ s).pending
    · rfl
  | openingByteAbandonment | gapAbandonment => exact ⟨_, rfl, (abandonFrame_lineOnly _ _ s).pending⟩
  | replyStart =>
    refine ⟨_, rfl, KeepsQueue.whenRunning (fun u => ?_) s⟩
    split <;> rfl
  | replyEnd =>
    refine ⟨_, rfl, KeepsQueue.whenRunning (fun u => ?_) s⟩
    split
    · split <;> rfl
    · rfl
    · rfl
  | replyAbandoned | newFrameBegins =>
    refine ⟨_, rfl, KeepsQueue.whenRunning (fun u => ?_) s⟩
    split
    · exact keepsQueue_beginFrame u
    · rfl
  | powerOn high =>
    refine ⟨_, rfl, ?_⟩
    split <;> rfl
  | resetPin => exact ⟨_, rfl, KeepsQueue.whenRunning (fun _ => by rfl) s⟩
  | resetComplete =>
    refine ⟨_, rfl, ?_⟩
    split <;> rfl
  | tick => exact ⟨_, rfl, KeepsQueue.whenRunning (fun _ => by rfl) s⟩
  | linkLossEvent => exact ⟨_, rfl, (KeepsQueue.of_moves loseLink_moves).ite.whenRunning s⟩
  | dwellEnd a | tailIntervalExpiry a =>
    exact ⟨_, rfl, (KeepsQueue.of_moves (endSegment_moves a _)).ite.whenRunning s⟩
  | inputTimeout a => exact ⟨_, rfl, (KeepsQueue.of_moves (endHeld_moves a _)).ite.whenRunning s⟩
  | filterAcceptance j => exact ⟨_, rfl, (KeepsQueue.of_moves (acceptRaw_moves j)).ite.whenRunning s⟩
  | rawChange p high => exact exec_rawChange_pending p high s
  | stepIssue a => exact ⟨_, rfl, (KeepsQueue.of_moves (issueStep_moves a)).whenRunning s⟩
  | stepPulseStart a => exact ⟨_, rfl, (KeepsQueue.of_moves (pulseStart_moves a)).whenRunning s⟩
  | stepPulseEnd a => exact ⟨_, rfl, (KeepsQueue.of_moves (pulseEnd_moves a)).whenRunning s⟩
  | stopWalkEnd a =>
    refine ⟨_, rfl, (KeepsQueue.ite fun u => ?_).whenRunning s⟩
    split
    · exact Moves.pending (endSegment_moves a _ u)
    · rfl
  | pulseEnd | pwmDutyEnd => exact ⟨_, rfl, (KeepsQueue.ite fun _ => by rfl).whenRunning s⟩
  | periodBoundary c =>
    refine ⟨_, rfl, KeepsQueue.whenRunning (fun u => ?_) s⟩
    split <;> rfl
  | _ => cases hi

/-- Settles O2: an order leaves the waiting commands by its verdict, and every other command by elementary changes, a
change of the line or a reset. -/
theorem everyCommandAnswersAndKeepsTheQueue : Obligations.EveryCommandAnswersAndKeepsTheQueue := by
  intro i s
  cases ho : i.order? with
  | none => exact exec_other_pending ho s
  | some o =>
    obtain ⟨c, h, p⟩ := o
    obtain rfl := eq_orderCommand ho
    exact ⟨_, exec_orderCommand c h p s, keepsQueue_receiveOrder (fun _ => decision_pending) s⟩

end Sys2Proof.Machine
end

section
/-! The two equations of a step: a command waits at the front, or none waits. -/

namespace Sys2Proof.Machine

variable {s : State} {c : Instr} {rest : List Instr}

/-- The command at the front leaves the queue before it is run. -/
theorem step_of_pending_cons (h : s.pending = c :: rest) : step s = exec c { s with pending := rest } := by
  simp only [step, h]

/-- With no command waiting the part idles (notes/assumptions/2.md). -/
theorem step_of_pending_nil (h : s.pending = []) : step s = .next s := by
  simp only [step, h]

/-- Settles O1: the two cases of the queue are the two equations of a step. -/
theorem stepRunsTheFrontCommand : Obligations.StepRunsTheFrontCommand :=
  ⟨fun _ _ _ => step_of_pending_cons, fun _ => step_of_pending_nil⟩

end Sys2Proof.Machine
end

section
/-! STOP of axes that are not busy (R74): the named axes treated one by one come to one change of the named axes. -/

namespace Sys2Proof.Machine

variable {s : State} {a : AxisId} {h : Header}

/-- What STOP leaves of an axis that is not busy (R74): with FLUSH the queue goes, and a HELD axis becomes IDLE. -/
def Axis.flushedAtRest (x : Axis) (flush : Bool) : Axis :=
  if flush then
    { x with
      queue := []
      state := if x.state = .held then .idle else x.state
      heldCause := if x.state = .held then .none else x.heldCause
      progress := if x.state = .held then none else x.progress }
  else x

theorem stopAxis_rest (mode : StopMode) (flush : Bool) (hb : (s.axis a).busy = false)
    (hidle : (s.axis a).state = .idle → (s.axis a).queue = []) :
    stopAxis mode flush a s = s.setAxis a ((s.axis a).flushedAtRest flush) := by
  cases flush with
  | false =>
    have hkeep : stopAxis mode false a s = s := by
      cases hs : (s.axis a).state <;> simp [stopAxis, Axis.busy, hs] at hb ⊢
    rw [hkeep, Axis.flushedAtRest, if_neg Bool.false_ne_true, State.setAxis_self]
  | true =>
    unfold Axis.flushedAtRest
    cases hs : (s.axis a).state with
    | running | waiting | stopping => simp [Axis.busy, hs] at hb
    | held => simp [stopAxis, hs, becomeIdle, flushQueue, State.setAxis_setAxis]
    | disabled => simp [stopAxis, hs, flushQueue]
    | idle =>
      have hsame : { s.axis a with queue := [], state := .idle } = s.axis a := by rw [← hidle hs, ← hs]
      simp [stopAxis, hs, hsame, State.setAxis_self]

/-- A STOP of axes that are not busy, in whatever order they take it (R73, R74). -/
theorem stopInOrder_rest {m : AxisMask} {order : List AxisId} (mode : StopMode) (flush : Bool)
    (hp : order.Perm (axesOf m)) (hb : ∀ a : AxisId, m.getLsbD a.val → (s.axis a).busy = false)
    (hidle : ∀ a : AxisId, (s.axis a).state = .idle → (s.axis a).queue = []) :
    stopInOrder mode flush order s = s.mapAxes fun a x => if m.getLsbD a.val then x.flushedAtRest flush else x := by
  have hmem : ∀ a, a ∈ order ↔ m.getLsbD a.val = true := fun a => hp.mem_iff.trans mem_axesOf
  rw [stopInOrder, foldl_axes_eq_mapAxes (f := fun _ x => x.flushedAtRest flush) order
    (hp.nodup_iff.2 (nodup_axesOf m)) s fun t a ha _ hx => by
      rw [stopAxis_rest mode flush (by rw [hx]; exact hb a ((hmem a).1 ha)) (by rw [hx]; exact hidle a), hx]]
  simp only [hmem]

/-- A STOP in the words of the order drawn (R73). -/
theorem execStop_eq (m : AxisMask) (abrupt flush : Bool) (ht : s.Takes h) (hf : s.Fresh h) :
    exec (.stop h [m.setWidth 8, flagByte abrupt, flagByte flush]) s = .next
      (let t := stopInOrder (if abrupt then .abrupt else .ramped) flush (drawOrder (axesOf m) s.heard).1
        (drawOrder (axesOf m) s.heard).2
      t.answered h 0x17 0 (stateCodes t)) := by
  refine congrArg Host.Outcome.next (takeOrder_accepted ht hf (by decide) ?_)
  simp only [orderStop, readAxisMask_setWidth, readStopMode_flagByte, readFlag_flagByte, orBadValue, Option.bind_eq_bind,
    Option.bind_some, Option.pure_def]

/-- Settles O27: whatever order is drawn, the named axes are changed alike. -/
theorem stopOfRestingAxesOnlyFlushes : Obligations.StopOfRestingAxesOnlyFlushes := by
  intro h m mode flush s ht hf hb hidle
  obtain ⟨hp, n, e⟩ := drawOrder_spec (axesOf m) s.heard
  refine ⟨n, ?_⟩
  rw [execStop_eq m mode flush ht hf, e, stopInOrder_rest (s := { s.heard with freeCount := n }) _ flush hp hb hidle]
  simp only [Axis.flushedAtRest, ite_and]
  rfl

end Sys2Proof.Machine
end

section
/-! What an event with several receivers makes of one axis (R83, R85, R104): as long as other axes take the event, the axis
keeps its record or its JOIN is broken; then it takes the event itself, and after that it is left alone. -/

namespace Sys2Proof.Machine

variable {s t : State} {a b : AxisId} {g : Segment} {rest : List Segment} {p : Progress} {x y z : Axis}

/-! ### The end of one axis's segment, as the other axes see it -/

/-- The JOIN of axis `x` has been broken, which leaves `y` (R59, R61, R104). -/
structure Axis.LosesJoin (x y : Axis) : Prop where
  waited : x.waitingOnJoin = true
  config : y.config = x.config
  state : y.state = .held
  progress : y.progress = none
  queue : y.queue = if x.flushPending then [] else x.queue.tail
  lastEnd : ∃ e, y.lastEnd = some e ∧ e.kind = .join ∧ e.cause = .joinBroken

/-- What the end of another axis's segment may make of an axis (R102 to R105): nothing, or its JOIN is broken. -/
def Axis.Outlives (x y : Axis) : Prop := y = x ∨ x.LosesJoin y

theorem Axis.Outlives.of_eq (h : y = x) : x.Outlives y := .inl h

theorem Axis.LosesJoin.away (h : x.LosesJoin y) : y.waitingOnJoin = false := Axis.not_waitingOnJoin (.inr h.progress)

/-- An axis that does not wait on a JOIN has none to lose. -/
theorem Axis.Outlives.eq (h : x.Outlives y) (hx : x.waitingOnJoin = false) : y = x :=
  h.resolve_right fun hl => Bool.eq_false_iff.1 hx hl.waited

theorem Axis.Outlives.trans (h : x.Outlives y) (k : y.Outlives z) : x.Outlives z := by
  obtain rfl | hl := h
  · exact k
  · exact k.eq hl.away ▸ .inr hl

theorem Axis.Outlives.config (h : x.Outlives y) : y.config = x.config := by
  obtain rfl | hl := h
  · rfl
  · exact hl.config

theorem Axis.not_waitingOnJoin_of_rest (h : x.busy = false) : x.waitingOnJoin = false :=
  Axis.not_waitingOnJoin (.inl fun hs => by simp [Axis.busy, hs] at h)

/-- An axis that is not busy has no JOIN to lose. -/
theorem Axis.Outlives.eq_of_rest (h : x.Outlives y) (hx : x.busy = false) : y = x :=
  h.eq (Axis.not_waitingOnJoin_of_rest hx)

/-- What happens to the axes of `s` at the ends of other axes' segments. -/
def Outlive (s t : State) : Prop := ∀ b, (s.axis b).Outlives (t.axis b)

theorem Outlive.of_axes (h : t.axes = s.axes) : Outlive s t := fun b => .of_eq (by simp [State.axis, h])

theorem Outlive.trans {u : State} (h : Outlive s t) (k : Outlive t u) : Outlive s u := fun b => (h b).trans (k b)

theorem foldl_outlive {α : Type} (f : State → α → State) (hf : ∀ s x, Outlive s (f s x)) (l : List α) (s : State) :
    Outlive s (l.foldl f s) :=
  List.foldlRecOn l f (.of_axes rfl) fun t h x _ => h.trans (hf t x)

/-- The record of an axis whose active segment is closed (R59, R61). -/
theorem closeSegment_axis_of_active (c : Cause) (hact : (s.axis a).active = some (g, p)) :
    (closeSegment a c s).axis a = { s.axis a with
      queue := if (s.axis a).flushPending then [] else (s.axis a).queue.tail
      lastEnd := some (s.endRecord a g (s.axis a).queue.tail p c), progress := none } := by
  obtain ⟨-, ⟨rest, hq⟩, hp⟩ := Axis.active_eq_some hact
  have hf : (s.axis a).flushPending = p.flushPending := by simp [Axis.flushPending, hp]
  rw [closeSegment_eq c hq hp, State.axis_setAxis_self, hf, hq, List.tail_cons]

/-- The end of a broken JOIN, with whatever breaks it brings (R104 step 2, R105). -/
theorem endBroken_outlive {search : AxisId → State → State} (hs : ∀ a s, Outlive s (search a s)) (b : AxisId) (s : State) :
    Outlive s (endBroken search b s) := by
  by_cases hw : (s.axis b).waitingOnJoin = true
  · have hend : endBroken search b s =
        hold b (.stopped .joinBroken) (search b (withdraw b (closeSegment b .joinBroken s))) := by
      simp [endBroken, hw, settle]
    intro d
    have hsearch : ((closeSegment b .joinBroken s).axis d).Outlives
        ((search b (withdraw b (closeSegment b .joinBroken s))).axis d) := hs b _ d
    by_cases hd : d = b
    · subst hd
      obtain ⟨-, g, p, hact, hkind⟩ := Axis.waitingOnJoin_iff.1 hw
      have hclosed := closeSegment_axis_of_active .joinBroken hact
      have hsame := hsearch.eq (Axis.not_waitingOnJoin (.inr (by rw [hclosed])))
      rw [hend, hold, State.axis_setAxis_self, hsame, hclosed]
      exact .inr ⟨hw, rfl, rfl, rfl, rfl, _, rfl, hkind, rfl⟩
    · rw [hend, hold, State.axis_setAxis_ne _ _ _ _ hd]
      rwa [closeSegment_other b d .joinBroken s hd] at hsearch
  · rw [endBroken, if_neg hw]
    exact .of_axes rfl

theorem breakSearch_outlive (fuel : Nat) (a : AxisId) (s : State) : Outlive s (breakSearch fuel a s) := by
  induction fuel generalizing a s with
  | zero => exact .of_axes rfl
  | succ fuel ih =>
    obtain ⟨n, e⟩ := (drawOrder_spec ((s.joins.filter fun r => r.member a && !r.here a).map JoinRecord.token) s).2
    simp only [breakSearch, e]
    refine (Outlive.of_axes (s := s) (t := { s with freeCount := n }) rfl).trans (foldl_outlive _ (fun u token => ?_) _ _)
    unfold breakRecord
    split
    · exact .of_axes rfl
    · exact (Outlive.of_axes rfl).trans (foldl_outlive _ (fun v b => endBroken_outlive ih b v) _ _)

theorem notifyJoins_outlive (a : AxisId) (c : Cause) (s : State) : Outlive s (notifyJoins a c s) := by
  have hw : Outlive s (withdraw a s) := .of_axes rfl
  unfold notifyJoins
  dsimp only
  split
  · exact hw.trans (breakSearch_outlive _ a _)
  · exact hw

theorem settle_other (c : Cause) (f : Bool) (s : State) (h : b ≠ a) : (settle a c f s).axis b = s.axis b := by
  unfold settle
  split
  · exact State.axis_setAxis_ne _ _ _ _ h
  · split
    · exact State.axis_setAxis_ne _ _ _ _ h
    · exact State.axis_setAxis_ne _ _ _ _ h

/-- The end of another axis's segment. -/
theorem endHeld_outlives (c : Cause) (s : State) (h : b ≠ a) : (s.axis b).Outlives ((endHeld a c s).axis b) := by
  have hnotify := notifyJoins_outlive a c (closeSegment a c s) b
  rw [closeSegment_other a b c s h] at hnotify
  rwa [endHeld, settle_other c _ _ h]

/-- A stop request to another axis. -/
theorem stopHeld_outlives (c : Cause) (m : StopMode) (f : Bool) (s : State) (h : b ≠ a) :
    (s.axis b).Outlives ((stopHeld a c m f s).axis b) := by
  unfold stopHeld applyStop
  split
  · exact .of_eq rfl
  · exact .of_eq (State.axis_setAxis_ne _ _ _ _ h)
  · next q c' _ =>
    have hend := endHeld_outlives c' (s.setAxis a { s.axis a with progress := some q }) h
    rwa [State.axis_setAxis_ne _ _ _ _ h] at hend

/-! ### The receivers one after the other -/

/-- An event that axis `a` itself takes no part in. -/
def SparesAxis (a : AxisId) (take : Receiver → State → State) : Prop :=
  ∀ r : Receiver, r ≠ .engine a → ∀ s : State, (s.axis a).Outlives ((take r s).axis a)

theorem SparesAxis.foldl {take : Receiver → State → State} (h : SparesAxis a take) {l : List Receiver}
    (hl : .engine a ∉ l) (s : State) : (s.axis a).Outlives ((l.foldl (fun s r => take r s) s).axis a) :=
  List.foldlRecOn (motive := fun t => (s.axis a).Outlives (t.axis a)) l _ (.of_eq rfl) fun t ht r hr =>
    ht.trans (h r (fun e => hl (e ▸ hr)) t)

/-- An axis among the receivers takes the event once, and the others take it before or after. -/
theorem SparesAxis.foldl_engine {take : Receiver → State → State} (h : SparesAxis a take) {l : List Receiver}
    (hn : l.Nodup) (hl : .engine a ∈ l) (s : State) :
    ∃ u, (s.axis a).Outlives (u.axis a) ∧
      ((take (.engine a) u).axis a).Outlives ((l.foldl (fun s r => take r s) s).axis a) := by
  obtain ⟨before, after, rfl⟩ := List.append_of_mem hl
  obtain ⟨-, hafter, hdisjoint⟩ := List.nodup_append.1 hn
  refine ⟨before.foldl (fun s r => take r s) s, h.foldl (fun hb => ?_) s, ?_⟩
  · exact hdisjoint _ hb _ List.mem_cons_self rfl
  · rw [List.foldl_append, List.foldl_cons]
    exact h.foldl (List.nodup_cons.1 hafter).1 _

/-- The engines of some axes are so many receivers, and none is the report queue or the output block. -/
theorem nodup_engines {l : List AxisId} (hn : l.Nodup) : (l.map Receiver.engine).Nodup :=
  hn.map fun _ _ => Receiver.engine.inj

theorem mem_engines {l : List AxisId} : Receiver.engine a ∈ l.map Receiver.engine ↔ a ∈ l :=
  List.mem_map_of_injective fun _ _ => Receiver.engine.inj

end Sys2Proof.Machine
end

section
/-! ESTOP becomes active (R82, R83, R106, O47). -/

namespace Sys2Proof.Machine

variable {s t : State} {a b : AxisId} {g : Segment} {rest : List Segment} {p : Progress} {x y z : Axis}

/-- A busy axis of the table has an active segment (R40). -/
theorem Axis.active_of_fits (hf : x.fits = true) (hb : x.busy = true) : ∃ g p, x.active = some (g, p) := by
  unfold Axis.fits at hf
  split at hf <;> simp_all [Axis.busy, Axis.active]

theorem overtakenCause_of_not_normal {c : Cause} (hc : c.normal = false) (r : Option Cause) : overtakenCause r c = c := by
  unfold overtakenCause
  split <;> simp [hc]

/-- An immediate stop with a cause that is not normal ends any active segment (R69, R70, R75). -/
theorem stopEffect_abrupt {c : Cause} (hc : c.normal = false) (hact : (s.axis a).active = some (g, p)) :
    stopEffect s a c .abrupt false = .ends p c := by
  obtain ⟨hs | hs | hs, -, -⟩ := Axis.active_eq_some hact <;>
    simp only [stopEffect, hact, hs, Bool.or_false, overtakenCause_of_not_normal hc]

/-- An end at a request's event that sets no flush. -/
theorem applyStop_ends {ender : AxisId → Cause → State → State} {e : StopEffect} {c : Cause}
    (hp : (s.axis a).progress = some p) (he : e = .ends p c) : applyStop ender a e s = ender a c s := by
  rw [he, applyStop, ← hp, State.setAxis_self]

theorem stopHeld_abrupt {c : Cause} (hc : c.normal = false) (hact : (s.axis a).active = some (g, p)) :
    stopHeld a c .abrupt false s = endHeld a c s := by
  obtain ⟨-, -, hp⟩ := Axis.active_eq_some hact
  exact applyStop_ends hp (stopEffect_abrupt hc hact)

/-- What ESTOP makes of an axis that is not DISABLED (R82, R83). -/
structure Axis.Estopped (x y : Axis) : Prop where
  state : y.state = if x.config.estopDisables then .disabled else .held
  heldCause : y.heldCause = .stopped .estop
  progress : y.progress = none
  rest : x.busy = false → y.queue = x.queue ∧ y.lastEnd = x.lastEnd
  busy : x.busy = true → y.queue = (if x.flushPending then [] else x.queue.tail) ∧
    ∃ e, y.lastEnd = some e ∧ (e.cause = .estop ∨ e.kind = .join ∧ e.cause = .joinBroken)

/-- The end of the active segment with ESTOP (R59, R60). -/
theorem endHeld_estop (hact : (s.axis a).active = some (g, p)) :
    (endHeld a .estop s).axis a = { s.axis a with
      state := if (s.axis a).config.estopDisables then .disabled else .held
      heldCause := .stopped .estop
      queue := if (s.axis a).flushPending then [] else (s.axis a).queue.tail
      lastEnd := some (s.endRecord a g (s.axis a).queue.tail p .estop), progress := none } := by
  have hclosed := closeSegment_axis_of_active .estop hact
  have hsame := (notifyJoins_outlive a .estop (closeSegment a .estop s) a).eq
    (Axis.not_waitingOnJoin (.inr (by rw [hclosed])))
  rw [endHeld, settle, if_pos rfl, leaveByEstop, State.axis_setAxis_self, hsame, hclosed]

/-- An axis that is neither busy nor DISABLED. -/
theorem estopAtAxis_rest (hb : (s.axis a).busy = false) (hd : (s.axis a).state ≠ .disabled) :
    estopAtAxis a s = leaveByEstop a s := by
  unfold estopAtAxis
  split
  case h_1 hs | h_2 hs | h_3 hs => simp [Axis.busy, hs] at hb
  case h_4 | h_5 => rfl
  case h_6 hs => exact absurd hs hd

theorem estopAtAxis_busy (hact : (s.axis a).active = some (g, p)) : estopAtAxis a s = endHeld a .estop s := by
  obtain ⟨hs | hs | hs, -, -⟩ := Axis.active_eq_some hact <;>
    simp only [estopAtAxis, hs, stopHeld_abrupt (c := .estop) rfl hact]

/-- An axis that takes the ESTOP, after those before it in the order have taken it. -/
theorem estopAtAxis_estopped (hf : x.fits = true) (hd : x.state ≠ .disabled) (h : x.Outlives (s.axis a)) :
    x.Estopped ((estopAtAxis a s).axis a) := by
  obtain hsame | hlost := h
  · rw [← hsame] at hf hd ⊢
    cases hb : (s.axis a).busy with
    | false =>
      rw [estopAtAxis_rest hb hd, leaveByEstop, State.axis_setAxis_self]
      exact ⟨rfl, rfl, rfl, fun _ => ⟨rfl, rfl⟩, fun h => absurd (hb.symm.trans h) Bool.false_ne_true⟩
    | true =>
      obtain ⟨g, p, hact⟩ := Axis.active_of_fits hf hb
      rw [estopAtAxis_busy hact, endHeld_estop hact]
      exact ⟨rfl, rfl, rfl, fun h => absurd (h.symm.trans hb) Bool.false_ne_true, fun _ => ⟨rfl, _, rfl, .inl rfl⟩⟩
  · have hbusy : x.busy = true := by
      obtain ⟨hs, -⟩ := Axis.waitingOnJoin_iff.1 hlost.waited
      simp [Axis.busy, hs]
    obtain ⟨e, he, hkind, hcause⟩ := hlost.lastEnd
    rw [estopAtAxis_rest (by simp [Axis.busy, hlost.state]) (by simp [hlost.state]), leaveByEstop, State.axis_setAxis_self,
      hlost.config]
    exact ⟨rfl, rfl, rfl, fun h => absurd (h.symm.trans hbusy) Bool.false_ne_true,
      fun _ => ⟨hlost.queue, e, he, .inr ⟨hkind, hcause⟩⟩⟩

theorem estopAtAxis_outlives (s : State) (h : b ≠ a) : (s.axis b).Outlives ((estopAtAxis a s).axis b) := by
  unfold estopAtAxis
  split
  case h_1 | h_2 | h_3 => exact stopHeld_outlives _ _ _ s h
  case h_4 | h_5 => exact .of_eq (State.axis_setAxis_ne _ _ _ _ h)
  case h_6 => exact .of_eq rfl

theorem takeEstop_spares (a : AxisId) : SparesAxis a takeEstop := by
  intro r hr s
  cases r with
  | engine b => exact estopAtAxis_outlives s fun e => hr (e ▸ rfl)
  | queue | outputs => exact .of_eq rfl

theorem nodup_estopReceivers (s : State) : (estopReceivers s).Nodup := by
  refine List.nodup_append.2 ⟨nodup_engines (List.Nodup.filter _ (by decide)), by simp, fun r hr q hq => ?_⟩
  obtain ⟨a, -, rfl⟩ := List.mem_map.1 hr
  rw [List.mem_singleton.1 hq]
  exact nofun

theorem mem_estopReceivers : Receiver.engine a ∈ estopReceivers s ↔ (s.axis a).state ≠ .disabled := by
  simp [estopReceivers, mem_axisIds]

/-- Every axis that is not DISABLED takes the ESTOP, whatever the order (R83, notes/assumptions/6.md). -/
theorem estopInOrder_axis {order : List Receiver} (hp : order.Perm (estopReceivers s)) (hf : (s.axis a).fits = true)
    (hj : t.axis a = s.axis a) :
    ((s.axis a).state = .disabled → (estopInOrder order t).axis a = s.axis a) ∧
      ((s.axis a).state ≠ .disabled → (s.axis a).Estopped ((estopInOrder order t).axis a)) := by
  have hmem := hp.mem_iff.trans (mem_estopReceivers (a := a))
  refine ⟨fun hd => ?_, fun hd => ?_⟩
  · have hspared := (takeEstop_spares a).foldl (mt hmem.1 (not_not_intro hd)) t
    rw [hj] at hspared
    exact hspared.eq_of_rest (by simp [Axis.busy, hd])
  · obtain ⟨u, hbefore, hafter⟩ :=
      (takeEstop_spares a).foldl_engine (hp.nodup_iff.2 (nodup_estopReceivers s)) (hmem.2 hd) t
    rw [hj] at hbefore
    have hstopped : (s.axis a).Estopped ((takeEstop (.engine a) u).axis a) := estopAtAxis_estopped hf hd hbefore
    exact hafter.eq (Axis.not_waitingOnJoin (.inr hstopped.progress)) ▸ hstopped

/-- Settles O47: whatever order is drawn, each axis takes the ESTOP once and is left alone afterwards. -/
theorem estopStopsEveryAxis : Obligations.EstopStopsEveryAxis := by
  intro s hr hf hpend hraw
  let t := s.setInput .estop { s.input .estop with accepted := true, pending := none }
  obtain ⟨hp, n, e⟩ := drawOrder_spec (estopReceivers t) t
  have haccept : acceptRaw .estop s = estopInOrder (drawOrder (estopReceivers t) t).1 { t with freeCount := n } := by
    rw [acceptRaw, hraw, handOn_estop, e]
  have frame := estopInOrder_frame (drawOrder (estopReceivers t) t).1 { t with freeCount := n }
  refine ⟨_, execFilterAcceptance_due hr hpend, ?_⟩
  rw [haccept]
  refine ⟨accepted_of_inputs frame.inputs .estop, frame.outputs, frame.pwm, frame.triggers, frame.profiles, frame.line,
    frame.uptime, fun a => ?_⟩
  obtain ⟨hdisabled, hstopped⟩ := estopInOrder_axis (t := { t with freeCount := n }) hp (hf a) rfl
  refine ⟨hdisabled, fun hd => ?_, fun hb => ?_, fun hb => ?_⟩
  · obtain ⟨hstate, hcause, hprogress, -, -⟩ := hstopped hd
    exact ⟨hstate, hcause, hprogress, frame.position a, frame.pulsesWaiting a, frame.stepActive a⟩
  · by_cases hd : (s.axis a).state = .disabled
    · have hsame := hdisabled hd
      rw [hsame]
      exact ⟨rfl, rfl⟩
    · exact (hstopped hd).rest hb
  · have hd : (s.axis a).state ≠ .disabled := fun hd => by simp [Axis.busy, hd] at hb
    exact (hstopped hd).busy hb

end Sys2Proof.Machine
end

section
/-! Link loss (R85, R129, R162, O48). -/

namespace Sys2Proof.Machine

variable {s t : State} {a b : AxisId} {g : Segment} {rest : List Segment} {p : Progress} {x : Axis}

/-! ### Stop requests of a RUNNING axis, whatever ends the segment (R66, R67) -/

/-- A ramped request to a RUNNING axis with a walk to take begins it (R67). -/
theorem applyStop_walks {ender : AxisId → Cause → State → State} {k : ProfileId} {legs : List Leg} (c : Cause)
    (hs : (s.axis a).state = .running) (hq : (s.axis a).queue = g :: rest) (hp : (s.axis a).progress = some p)
    (hw : s.walkFrom a g p = some (k, legs)) :
    applyStop ender a (stopEffect s a c .ramped false) s = s.walkBegun a p k legs c := by
  rw [stopEffect_walks c false hs hq hp hw, Bool.or_false]
  rfl

/-- A ramped request to a RUNNING axis without a walk to take ends the segment at once (R30, R33). -/
theorem applyStop_no_walk {ender : AxisId → Cause → State → State} (c : Cause) (hs : (s.axis a).state = .running)
    (hq : (s.axis a).queue = g :: rest) (hp : (s.axis a).progress = some p) (hw : s.walkFrom a g p = none) :
    applyStop ender a (stopEffect s a c .ramped false) s = ender a c s := by
  refine applyStop_ends hp ?_
  have hramped := rampedStop_walkFrom a g p c s (by simp [Axis.currentRate, hs, hp])
  rw [hw] at hramped
  simp only [stopEffect, Axis.active_of_busy (.inl hs) hq hp, hs, Bool.or_false]
  exact hramped

/-! ### The output block at link loss (R129) -/

/-- The output block at link loss: every output and channel by its own record (R129). -/
theorem outputsAtLoss_eq (s : State) : outputsAtLoss s =
    (s.mapOutputs fun _ o => o.atLoss).mapChannels fun _ c => c.atLoss := by
  have hchannels (c : Fin 2) : c ∈ [(0 : Fin 2), 1] := by revert c; decide
  unfold outputsAtLoss
  rw [foldl_setOutput_eq_mapOutputs (fun _ o => o.atLoss) _ nodup_outputIds,
    foldl_setChannel_eq_mapChannels (fun _ c => c.atLoss) _ (by decide)]
  simp only [mem_outputIds, hchannels, if_true]

theorem State.channel_mapChannels (s : State) (f : Fin 2 → PwmChannel → PwmChannel) (c : Fin 2) :
    (s.mapChannels f).channel c = f c (s.channel c) := by
  simp [State.mapChannels, State.channel]

theorem output_outputsAtLoss (s : State) (n : Fin 8) : (outputsAtLoss s).output n = (s.output n).atLoss := by
  rw [outputsAtLoss_eq]
  exact State.output_mapOutputs s _ n

theorem channel_outputsAtLoss (s : State) (c : Fin 2) : (outputsAtLoss s).channel c = (s.channel c).atLoss := by
  rw [outputsAtLoss_eq]
  exact State.channel_mapChannels _ _ c

theorem outputsAtLoss_same (s : State) : (outputsAtLoss s).line = s.line ∧ (outputsAtLoss s).inputs = s.inputs ∧
    (outputsAtLoss s).profiles = s.profiles ∧ (outputsAtLoss s).triggers = s.triggers ∧
    (outputsAtLoss s).uptime = s.uptime := by
  rw [outputsAtLoss_eq]
  exact ⟨rfl, rfl, rfl, rfl, rfl⟩

theorem OutputRecord.atLoss_eq (o : OutputRecord) : o.atLoss =
    match o.lossLevel with
    | .keep => o
    | .active => { o with level := true, deadline := none }
    | .inactive => { o with level := false, deadline := none } := by
  cases h : o.lossLevel <;> simp only [OutputRecord.atLoss, h]

theorem PwmChannel.atLoss_eq (c : PwmChannel) : c.atLoss =
    if c.offOnLoss ∧ c.enabled then { c with enabled := false, pending := none, pinActive := false } else c := by
  simp only [PwmChannel.atLoss, ite_and]
  rfl

theorem StopFrame.output (h : StopFrame s t) (n : Fin 8) : t.output n = s.output n := by
  rw [State.output, State.output, h.outputs]

theorem StopFrame.channel (h : StopFrame s t) (c : Fin 2) : t.channel c = s.channel c := by
  rw [State.channel, State.channel, h.pwm]

/-! ### An axis at link loss (R85) -/

/-- An end with LINK_LOST leaves the axis HELD (R60). -/
theorem endHeld_linkLost (a : AxisId) (s : State) : ((endHeld a .linkLost s).axis a).state = .held := by
  rw [endHeld, settle, if_neg (by decide), if_neg (by simp), hold, State.axis_setAxis_self]

/-- A ramped link loss ends the segment of a busy axis or leaves it on a stop walk (R67, R70, R76). -/
theorem stopHeld_linkLost_ramped (hact : (s.axis a).active = some (g, p)) :
    ((stopHeld a .linkLost .ramped false s).axis a).state = .held ∨
      ((stopHeld a .linkLost .ramped false s).axis a).state = .stopping := by
  obtain ⟨hs, ⟨rest, hq⟩, hp⟩ := Axis.active_eq_some hact
  obtain hs | hs | hs := hs
  · cases hw : s.walkFrom a g p with
    | none =>
      rw [stopHeld, applyStop_no_walk .linkLost hs hq hp hw]
      exact .inl (endHeld_linkLost a s)
    | some w =>
      rw [stopHeld, applyStop_walks .linkLost hs hq hp hw, State.walkBegun, State.axis_setAxis_self]
      exact .inr rfl
  · rw [stopHeld, stopEffect_ends false hq hp (.inr hs), applyStop]
    exact .inl (endHeld_linkLost a _)
  · simp [stopHeld, stopEffect, hact, hs, applyStop]

/-- What link loss makes of a busy axis whose action is not CONTINUE (R85). -/
structure Axis.Unlinked (x y : Axis) : Prop where
  abrupt : x.config.linkLossAction = .abrupt → y.state = .held
  ramped : x.config.linkLossAction = .ramped → y.state = .held ∨ y.state = .stopping

/-- A busy axis that takes the link loss, after those before it in the order have taken it. -/
theorem linkLossAtAxis_unlinked (hf : x.fits = true) (hb : x.busy = true) (h : x.Outlives (s.axis a)) :
    x.Unlinked ((linkLossAtAxis a s).axis a) := by
  rw [linkLossAtAxis, h.config]
  obtain hsame | hlost := h
  · rw [← hsame] at hf hb ⊢
    obtain ⟨g, p, hact⟩ := Axis.active_of_fits hf hb
    refine ⟨fun hc => ?_, fun hc => ?_⟩
    · simp only [hc, stopHeld_abrupt (c := .linkLost) rfl hact]
      exact endHeld_linkLost a s
    · simp only [hc]
      exact stopHeld_linkLost_ramped hact
  · have hrest : (s.axis a).busy = false := by simp [Axis.busy, hlost.state]
    refine ⟨fun hc => ?_, fun hc => .inl ?_⟩
    · simp only [hc, stopHeld_of_not_busy _ _ _ hrest, hlost.state]
    · simp only [hc, stopHeld_of_not_busy _ _ _ hrest, hlost.state]

theorem takeLinkLoss_spares (a : AxisId) : SparesAxis a takeLinkLoss := by
  intro r hr s
  cases r with
  | engine b =>
    have hne : a ≠ b := fun e => hr (e ▸ rfl)
    simp only [takeLinkLoss, linkLossAtAxis]
    split
    · exact stopHeld_outlives _ _ _ s hne
    · exact stopHeld_outlives _ _ _ s hne
    · exact .of_eq rfl
  | queue => exact .of_eq rfl
  | outputs =>
    rw [takeLinkLoss, outputsAtLoss_eq]
    exact .of_eq rfl

/-! ### The receivers (R106, R129, R162, notes/assumptions/6.md) -/

theorem nodup_linkLossReceivers (s : State) : (linkLossReceivers s).Nodup := by
  refine List.nodup_append.2 ⟨nodup_engines (List.Nodup.filter _ (by decide)), by decide, fun r hr q hq => ?_⟩
  obtain ⟨a, -, rfl⟩ := List.mem_map.1 hr
  rintro rfl
  simp at hq

theorem mem_linkLossReceivers : Receiver.engine a ∈ linkLossReceivers s ↔
    (s.axis a).busy = true ∧ (s.axis a).config.linkLossAction ≠ .continue := by
  simp [linkLossReceivers, mem_axisIds]

theorem outputs_mem_linkLossReceivers (s : State) : Receiver.outputs ∈ linkLossReceivers s := by
  simp [linkLossReceivers]

/-- Every axis that has something to stop takes the link loss, whatever the order, and no other does (R85). -/
theorem linkLossInOrder_axis {order : List Receiver} (hp : order.Perm (linkLossReceivers s)) (hf : (s.axis a).fits = true)
    (hx : t.axis a = s.axis a) :
    ((s.axis a).busy = false → (linkLossInOrder order t).axis a = s.axis a) ∧
      ((s.axis a).busy = true → (s.axis a).Unlinked ((linkLossInOrder order t).axis a)) := by
  have hmem := hp.mem_iff.trans (mem_linkLossReceivers (a := a))
  refine ⟨fun hb => ?_, fun hb => ?_⟩
  · have hspared := (takeLinkLoss_spares a).foldl (mt hmem.1 fun h => by simp [hb] at h) t
    rw [hx] at hspared
    exact hspared.eq_of_rest hb
  · by_cases hc : (s.axis a).config.linkLossAction = .continue
    · exact ⟨fun h => by simp [hc] at h, fun h => by simp [hc] at h⟩
    · obtain ⟨u, hbefore, hafter⟩ :=
        (takeLinkLoss_spares a).foldl_engine (hp.nodup_iff.2 (nodup_linkLossReceivers s)) (hmem.2 ⟨hb, hc⟩) t
      rw [hx] at hbefore
      have hunlinked : (s.axis a).Unlinked ((takeLinkLoss (.engine a) u).axis a) :=
        linkLossAtAxis_unlinked hf hb hbefore
      have hnotWaiting : ((takeLinkLoss (.engine a) u).axis a).state ≠ .waiting := by
        cases haction : (s.axis a).config.linkLossAction with
        | abrupt => simp [hunlinked.abrupt haction]
        | ramped =>
          obtain h | h := hunlinked.ramped haction
          · simp [h]
          · simp [h]
        | _ => exact absurd haction hc
      exact hafter.eq (Axis.not_waitingOnJoin (.inl hnotWaiting)) ▸ hunlinked

theorem takeLinkLoss_frame {r : Receiver} (hr : r ≠ .outputs) (s : State) : StopFrame s (takeLinkLoss r s) := by
  cases r with
  | engine a =>
    simp only [takeLinkLoss, linkLossAtAxis]
    split
    · exact stopHeld_frame a _ _ _ s
    · exact stopHeld_frame a _ _ _ s
    · exact .refl s
  | queue => exact stopFrame_admitReport _ s
  | outputs => exact absurd rfl hr

theorem foldl_takeLinkLoss_frame {l : List Receiver} (hl : .outputs ∉ l) (s : State) :
    StopFrame s (l.foldl (fun s r => takeLinkLoss r s) s) :=
  List.foldlRecOn (motive := fun t => StopFrame s t) l _ (.refl s) fun t h _ hr =>
    h.trans (takeLinkLoss_frame (fun e => hl (e ▸ hr)) t)

/-- The output block takes the link loss once, and no other receiver reaches it. -/
theorem linkLossInOrder_outputs {order : List Receiver} (hn : order.Nodup) (hm : .outputs ∈ order) (s : State) :
    ∃ u, StopFrame s u ∧ StopFrame (outputsAtLoss u) (linkLossInOrder order s) := by
  obtain ⟨before, after, rfl⟩ := List.append_of_mem hm
  obtain ⟨-, hafter, hdisjoint⟩ := List.nodup_append.1 hn
  refine ⟨before.foldl (fun s r => takeLinkLoss r s) s,
    foldl_takeLinkLoss_frame (fun hb => hdisjoint _ hb _ List.mem_cons_self rfl) s, ?_⟩
  rw [linkLossInOrder, List.foldl_append, List.foldl_cons]
  exact foldl_takeLinkLoss_frame (List.nodup_cons.1 hafter).1 _

/-- Where no axis has anything to stop, the output block and the report queue are left (R85, R162). -/
theorem linkLossReceivers_of_still
    (h : ∀ a : AxisId, (s.axis a).busy = false ∨ (s.axis a).config.linkLossAction = .continue) :
    linkLossReceivers s = [.outputs, .queue] := by
  have hnone : (axisIds.filter fun a => (s.axis a).busy && (s.axis a).config.linkLossAction != .continue) = [] :=
    List.filter_eq_nil_iff.2 fun a _ => by
      obtain hb | hc := h a
      · simp [hb]
      · simp [hc]
  rw [linkLossReceivers, hnone]
  rfl

/-- The output block and the report queue take the link loss in either order, with the same reports. -/
theorem linkLossInOrder_still {order : List Receiver} (hp : order.Perm [.outputs, .queue]) (s : State) :
    (linkLossInOrder order s).axes = s.axes ∧ (linkLossInOrder order s).joins = s.joins ∧
      (linkLossInOrder order s).reports = (admitReport (.linkLost s.line.timeout) s).reports := by
  obtain rfl | rfl := List.perm_pair.1 hp
  · simp only [linkLossInOrder, List.foldl_cons, List.foldl_nil, takeLinkLoss, outputsAtLoss_eq]
    exact ⟨rfl, rfl, rfl⟩
  · simp only [linkLossInOrder, List.foldl_cons, List.foldl_nil, takeLinkLoss, outputsAtLoss_eq]
    exact ⟨rfl, rfl, rfl⟩

theorem execLinkLossEvent_eq (hr : s.resetHeld = none) :
    exec .linkLossEvent s = .next (if s.line.timer = some s.uptime then loseLink s else s) := by
  refine congrArg Host.Outcome.next ((exec_running hr).trans ?_)
  simp only [State.due, beq_iff_eq]

/-- Settles O48: whatever order is drawn, the output block and each axis take the link loss once. -/
theorem linkLossReachesEveryBlock : Obligations.LinkLossReachesEveryBlock := by
  intro s hr
  refine ⟨fun hd => by rw [execLinkLossEvent_eq hr, if_neg hd], fun hd hf => ?_⟩
  let l : State := { s with line := { s.line with link := .lost, timer := none } }
  obtain ⟨hp, n, e⟩ := drawOrder_spec (linkLossReceivers l) l
  have hloss : loseLink s = linkLossInOrder (drawOrder (linkLossReceivers l) l).1 { l with freeCount := n } := by
    rw [← e]
    rfl
  obtain ⟨u, hbefore, hafter⟩ := linkLossInOrder_outputs (hp.nodup_iff.2 (nodup_linkLossReceivers l))
    (hp.mem_iff.2 (outputs_mem_linkLossReceivers l)) { l with freeCount := n }
  refine ⟨_, execLinkLossEvent_eq hr, ?_⟩
  rw [if_pos hd, hloss]
  obtain ⟨hline, hinputs, hprofiles, htriggers, huptime⟩ := outputsAtLoss_same u
  refine ⟨hafter.line.trans (hline.trans hbefore.line), hafter.inputs.trans (hinputs.trans hbefore.inputs),
    hafter.profiles.trans (hprofiles.trans hbefore.profiles), hafter.triggers.trans (htriggers.trans hbefore.triggers),
    hafter.uptime.trans (huptime.trans hbefore.uptime), fun k => ?_, fun c => ?_, fun a => ?_, fun hstill => ?_⟩
  · rw [hafter.output, output_outputsAtLoss, hbefore.output]
    exact OutputRecord.atLoss_eq _
  · rw [hafter.channel, channel_outputsAtLoss, hbefore.channel]
    exact PwmChannel.atLoss_eq _
  · obtain ⟨hrest, hbusy⟩ := linkLossInOrder_axis (t := { l with freeCount := n }) hp (hf a) rfl
    exact ⟨hrest, fun hb => (hbusy hb).abrupt, fun hb => (hbusy hb).ramped⟩
  · exact linkLossInOrder_still (hp.trans (.of_eq (linkLossReceivers_of_still hstill))) { l with freeCount := n }

end Sys2Proof.Machine
end

section
/-! The due acceptance of an input's level (R78 to R81, R84, R87, R88, R94, R135, R137, O46): first what each change makes
of its axis, then the clauses of the statement, input by input. -/

namespace Sys2Proof.Machine

variable {s : State} {a : AxisId} {g : Segment} {rest : List Segment} {p : Progress}

/-! ### The axis that a change finds -/

theorem Axis.active_eq_none {x : Axis} (h : x.busy = false) : x.active = none := by
  cases hact : x.active with
  | none => rfl
  | some v => exact absurd (Axis.busy_of_active hact) (Bool.eq_false_iff.1 h)

/-- An axis whose segment is no JOIN has arrived in no record (R97). -/
theorem away_of_not_join (hj : s.JoinsSound) (h : (s.axis a).waitingOnJoin = false) : ∀ r ∈ s.joins, r.here a = false := by
  obtain ⟨-, -, -, hwaits, -⟩ := hj
  intro r hr
  rw [Bool.eq_false_iff]
  exact fun hh => Bool.eq_false_iff.1 h (Axis.onJoin_of_waitsIn (hwaits a r hr hh))

/-- The row of a RUNNING axis: a motion, with no flush pending and the home event still to come (R41). -/
theorem running_fits (hf : (s.axis a).fits = true) (hs : (s.axis a).state = .running)
    (hact : (s.axis a).active = some (g, p)) :
    g.work.motion = true ∧ p.flushPending = false ∧ p.homeDetected = false := by
  have hfits : p.fitsRunning g.work = true := by simpa [hs] using (Axis.fits_active hf hact).2
  obtain ⟨hm, -, -, -, hflush, hhome⟩ := Progress.fitsRunning_iff.1 hfits
  exact ⟨hm.motion, hflush, hhome⟩

/-- The row of a WAITING axis: no motion, and no direction (R41, R53). -/
theorem waiting_fits_motion (hf : (s.axis a).fits = true) (hs : (s.axis a).state = .waiting)
    (hact : (s.axis a).active = some (g, p)) : g.work.motion = false ∧ p.direction = none := by
  have hfits : p.fitsWaiting g.work = true := by simpa [hs] using (Axis.fits_active hf hact).2
  simp only [Progress.fitsWaiting, Bool.and_eq_true, Bool.not_eq_true', Option.isNone_iff_eq_none] at hfits
  obtain ⟨⟨⟨⟨⟨⟨⟨⟨⟨⟨⟨hmotion, hdirection⟩, -⟩, -⟩, -⟩, -⟩, -⟩, -⟩, -⟩, -⟩, -⟩, -⟩ := hfits
  exact ⟨hmotion, hdirection⟩

/-! ### Limits and ALARM (R78, R81) -/

/-- An immediate stop with a cause that holds the axis, of a busy axis. -/
theorem stopHeld_abrupt_ends {c : Cause} (hn : c.normal = false) (he : c ≠ .estop) (hb : (s.axis a).busy = true)
    (hq : (s.axis a).queue = g :: rest) (hp : (s.axis a).progress = some p) :
    s.EndsHeld a g rest p c (.next (stopHeld a c .abrupt false s)) := by
  rw [stopHeld_abrupt hn (Axis.active_of_busy (Axis.busy_iff.1 hb) hq hp)]
  exact endHeld_endsHeld a g rest p c s hq hp hn he

theorem limitChanged_ends {d : Direction} (hb : (s.axis a).busy = true) (hq : (s.axis a).queue = g :: rest)
    (hp : (s.axis a).progress = some p) (hd : p.direction = some d) :
    s.EndsHeld a g rest p (limitCause d) (.next (limitChanged a d s)) := by
  rw [limitChanged, Axis.active_of_busy (Axis.busy_iff.1 hb) hq hp]
  dsimp only
  rw [if_pos hd]
  refine stopHeld_abrupt_ends ?_ ?_ hb hq hp
  · cases d <;> rfl
  · cases d <;> decide

theorem limitChanged_keeps {d : Direction} (h : ∀ g p, (s.axis a).active = some (g, p) → p.direction ≠ some d) :
    limitChanged a d s = s := by
  unfold limitChanged
  split
  · next g p hact => rw [if_neg (h g p hact)]
  · rfl

/-- A limit, in the words of the statement: a WAITING axis has no direction. -/
theorem limitChanged_busy (d : Direction) (hf : (s.axis a).fits = true) (hb : (s.axis a).busy = true)
    (hq : (s.axis a).queue = g :: rest) (hp : (s.axis a).progress = some p) :
    if (s.axis a).state ≠ .waiting ∧ p.direction = some d then
      s.EndsHeld a g rest p (limitCause d) (.next (limitChanged a d s))
    else Host.Outcome.next (limitChanged a d s) = (.next s : Host.Outcome State Fault Refusal) := by
  have hact := Axis.active_of_busy (Axis.busy_iff.1 hb) hq hp
  split
  · next h => exact limitChanged_ends hb hq hp h.2
  · next h =>
    refine congrArg Host.Outcome.next (limitChanged_keeps fun g' p' hact' hd => h ⟨fun hs => ?_, ?_⟩)
    · exact nomatch (waiting_fits_motion hf hs hact').2.symm.trans hd
    · obtain ⟨-, rfl⟩ := Prod.mk.inj (Option.some.inj (hact.symm.trans hact'))
      exact hd

theorem alarmChanged_busy (hb : (s.axis a).busy = true) (hq : (s.axis a).queue = g :: rest)
    (hp : (s.axis a).progress = some p) : s.EndsHeld a g rest p .driverAlarm (.next (alarmChanged a s)) := by
  have hstop : alarmChanged a s = stopHeld a .driverAlarm .abrupt false s := by
    obtain hs | hs | hs := Axis.busy_iff.1 hb <;> simp only [alarmChanged, hs]
  rw [hstop]
  exact stopHeld_abrupt_ends rfl (by decide) hb hq hp

/-! ### SLOW (R79, R80) -/

/-- A RUN that seeks SLOW. -/
def Work.seeksSlow : Work → Bool
  | .run _ _ _ seekSlow => seekSlow
  | .move .. | .goto .. | .home .. | .dwell _ | .join _ _ | .waitInput _ _ _ => false

theorem slowChanged_keeps (h : (s.axis a).state ≠ .running) : slowChanged a s = s := by
  unfold slowChanged
  split
  · rw [if_neg h]
  · rfl

theorem slowChanged_seek (hs : (s.axis a).state = .running) (hact : (s.axis a).active = some (g, p))
    (hg : g.work.seeksSlow = true) : slowChanged a s = stopSegment a .slowReached .ramped false s := by
  cases hw : g.work <;> simp_all [slowChanged, Work.seeksSlow]

/-- SLOW as a zone (R79). -/
theorem slowChanged_zone (hs : (s.axis a).state = .running) (hact : (s.axis a).active = some (g, p))
    (hm : g.work.motion = true) (hg : g.work.seeksSlow = false) (hslow : s.accepted (.axis a .slow) = true) :
    slowChanged a s =
      if (s.axis a).config.slowThreshold ≤ p.rate then stopHeld a .slowZone .ramped false s else s := by
  obtain ⟨-, -, hp⟩ := Axis.active_eq_some hact
  cases hw : g.work <;>
    simp_all [slowChanged, inSlowZone, Work.seeksSlow, Work.slowIsZone, Work.motion, Axis.currentRate]

/-- The end of a RUNNING axis's last segment with a normal cause (R60). -/
theorem endSegment_running {c : Cause} (hc : c.normal = true) (hj : s.JoinsSound) (hs : (s.axis a).state = .running)
    (hq : (s.axis a).queue = [g]) (hp : (s.axis a).progress = some p) (hflush : p.flushPending = false) :
    endSegment a c s = s.idleAfter a g p c :=
  endSegment_last hc hq hp hflush (away_of_not_join hj (Axis.not_waitingOnJoin (.inl (by simp [hs]))))

theorem Work.seeksSlow_eq_false {w : Work} (h : ∀ rate profile negative, w ≠ .run rate profile negative true) :
    w.seeksSlow = false := by
  cases w with
  | run rate profile negative seek => exact Bool.eq_false_iff.2 fun hs => h rate profile negative (congrArg _ hs)
  | _ => rfl

section
variable {k : ProfileId} {legs : List Leg}

theorem slowChanged_seek_walks (hs : (s.axis a).state = .running) (hq : (s.axis a).queue = g :: rest)
    (hp : (s.axis a).progress = some p) (hg : g.work.seeksSlow = true) (hw : s.walkFrom a g p = some (k, legs)) :
    slowChanged a s = s.walkBegun a p k legs .slowReached :=
  (slowChanged_seek hs (Axis.active_of_busy (.inl hs) hq hp) hg).trans (applyStop_walks .slowReached hs hq hp hw)

theorem slowChanged_seek_last (hf : (s.axis a).fits = true) (hj : s.JoinsSound) (hs : (s.axis a).state = .running)
    (hq : (s.axis a).queue = [g]) (hp : (s.axis a).progress = some p) (hg : g.work.seeksSlow = true)
    (hw : s.walkFrom a g p = none) : slowChanged a s = s.idleAfter a g p .slowReached := by
  have hact := Axis.active_of_busy (.inl hs) hq hp
  obtain ⟨-, hflush, -⟩ := running_fits hf hs hact
  rw [slowChanged_seek hs hact hg, stopSegment, applyStop_no_walk .slowReached hs hq hp hw,
    endSegment_running rfl hj hs hq hp hflush]

theorem stopHeld_slowZone_walks (hs : (s.axis a).state = .running) (hq : (s.axis a).queue = g :: rest)
    (hp : (s.axis a).progress = some p) (hw : s.walkFrom a g p = some (k, legs)) :
    stopHeld a .slowZone .ramped false s = s.walkBegun a p k legs .slowZone :=
  applyStop_walks .slowZone hs hq hp hw

theorem stopHeld_slowZone_ends (hs : (s.axis a).state = .running) (hq : (s.axis a).queue = g :: rest)
    (hp : (s.axis a).progress = some p) (hw : s.walkFrom a g p = none) :
    s.EndsHeld a g rest p .slowZone (.next (stopHeld a .slowZone .ramped false s)) := by
  rw [stopHeld, applyStop_no_walk .slowZone hs hq hp hw]
  exact endHeld_endsHeld a g rest p .slowZone s hq hp rfl (by decide)

end

/-- SLOW on a busy axis, in the words of the statement (R79, R80). -/
theorem slowChanged_busy (hf : (s.axis a).fits = true) (hj : s.JoinsSound) (hb : (s.axis a).busy = true)
    (hq : (s.axis a).queue = g :: rest) (hp : (s.axis a).progress = some p)
    (hslow : s.accepted (.axis a .slow) = true) :
    let o : Host.Outcome State Fault Refusal := .next (slowChanged a s)
    match (s.axis a).state, g.work with
    | .running, .run _ _ _ true =>
      match s.walkFrom a g p with
      | some (k, legs) => o = .next (s.walkBegun a p k legs .slowReached)
      | none => rest = [] → o = .next (s.idleAfter a g p .slowReached)
    | .running, _ =>
      if (s.axis a).config.slowThreshold ≤ p.rate then
        match s.walkFrom a g p with
        | some (k, legs) => o = .next (s.walkBegun a p k legs .slowZone)
        | none => s.EndsHeld a g rest p .slowZone o
      else o = .next s
    | _, _ => o = .next s := by
  intro o
  have hact := Axis.active_of_busy (Axis.busy_iff.1 hb) hq hp
  split
  · next hs hg =>
    have hseek : g.work.seeksSlow = true := by rw [hg]; rfl
    split
    · next hw => exact congrArg Host.Outcome.next (slowChanged_seek_walks hs hq hp hseek hw)
    · next hw =>
      rintro rfl
      exact congrArg Host.Outcome.next (slowChanged_seek_last hf hj hs hq hp hseek hw)
  · next hs hg =>
    obtain ⟨hmotion, -, -⟩ := running_fits hf hs hact
    have hzone := slowChanged_zone hs hact hmotion (Work.seeksSlow_eq_false hg) hslow
    split
    · next hrate =>
      have hstop : o = .next (stopHeld a .slowZone .ramped false s) :=
        congrArg Host.Outcome.next (hzone.trans (if_pos hrate))
      rw [hstop]
      split
      · next hw => exact congrArg Host.Outcome.next (stopHeld_slowZone_walks hs hq hp hw)
      · next hw => exact stopHeld_slowZone_ends hs hq hp hw
    · next hrate => exact congrArg Host.Outcome.next (hzone.trans (if_neg hrate))
  · next hs _ => exact congrArg Host.Outcome.next (slowChanged_keeps hs)

/-! ### HOME (R87, R88) -/

/-- The home event of an axis with progress `p`: home detected is set, and the counter is zeroed with ZERO_AT_HOME (R87). -/
def State.homeMet (s : State) (a : AxisId) (p : Progress) (zeroAtHome : Bool) : State :=
  s.setAxis a { s.axis a with
    position := if zeroAtHome then 0 else (s.axis a).position
    progress := some { p with homeDetected := true } }

section
variable {limit rate : Nat} {k : Option ProfileId} {negative zero abrupt : Bool}

theorem homeChanged_other (hact : (s.axis a).active = some (g, p)) (hg : g.work.isHome = false) : homeChanged a s = s := by
  cases hw : g.work <;> simp_all [homeChanged, Work.isHome]

theorem homeChanged_again (hact : (s.axis a).active = some (g, p)) (hd : p.homeDetected = true) : homeChanged a s = s := by
  simp only [homeChanged, hact, hd, if_true]
  split <;> rfl

theorem homeChanged_met (hact : (s.axis a).active = some (g, p)) (hg : g.work = .home limit rate k negative zero abrupt)
    (hd : p.homeDetected = false) :
    homeChanged a s = stopSegment a .homed (if abrupt then .abrupt else .ramped) false (s.homeMet a p zero) := by
  simp only [homeChanged, hact, hg, hd, Bool.false_eq_true, if_false]
  rfl

/-- A walk overtaken at once by the home event ends with its recorded cause, where that is not normal (R75, R88). -/
theorem stopSegment_homed_abrupt {c : Cause} (hs : (s.axis a).state = .stopping) (hq : (s.axis a).queue = g :: rest)
    (hp : (s.axis a).progress = some p) (hr : p.recordedCause = some c) (hc : c.normal = false) :
    stopSegment a .homed .abrupt false s = endHeld a c s := by
  have hover : overtakenCause p.recordedCause .homed = c := by
    have hn : Cause.homed.normal = true := rfl
    simp [overtakenCause, hr, hc, hn]
  have heffect : stopEffect s a .homed .abrupt false = .ends p c := by
    simp only [stopEffect, Axis.active_of_busy (.inr (.inr hs)) hq hp, hs, Bool.or_false, hover]
  rw [stopSegment, applyStop_ends hp heffect, endSegment, if_neg (by simp [hc])]

/-- A walk goes on past the home event with its recorded cause, where that is not normal (R76, R88). -/
theorem stopSegment_homed_ramped {c : Cause} (hs : (s.axis a).state = .stopping) (hq : (s.axis a).queue = g :: rest)
    (hp : (s.axis a).progress = some p) (hr : p.recordedCause = some c) (hc : c.normal = false) :
    stopSegment a .homed .ramped false s = s := by
  have hsame : { p with recordedCause := some (rampedCause p.recordedCause .homed) } = p := by
    have hcause : rampedCause p.recordedCause .homed = c := by simp [rampedCause, hr, hc]
    rw [hcause, ← hr]
  have heffect : stopEffect s a .homed .ramped false = .walks p := by
    simp only [stopEffect, Axis.active_of_busy (.inr (.inr hs)) hq hp, hs, Bool.or_false, hsame]
  rw [stopSegment, heffect, applyStop, ← hs, ← hp, State.setAxis_self]

theorem homeMet_state (s : State) (a : AxisId) (p : Progress) (zero : Bool) :
    ((s.homeMet a p zero).axis a).state = (s.axis a).state := by
  rw [State.homeMet, State.axis_setAxis_self]

theorem homeMet_queue (s : State) (a : AxisId) (p : Progress) (zero : Bool) :
    ((s.homeMet a p zero).axis a).queue = (s.axis a).queue := by
  rw [State.homeMet, State.axis_setAxis_self]

theorem homeMet_progress (s : State) (a : AxisId) (p : Progress) (zero : Bool) :
    ((s.homeMet a p zero).axis a).progress = some { p with homeDetected := true } := by
  rw [State.homeMet, State.axis_setAxis_self]

/-- The home event starts the walk of a ramped stop (R88). -/
theorem homeChanged_walks {w : ProfileId} {legs : List Leg} (hs : (s.axis a).state = .running)
    (hq : (s.axis a).queue = g :: rest) (hp : (s.axis a).progress = some p)
    (hg : g.work = .home limit rate k negative zero abrupt) (hd : p.homeDetected = false)
    (hw : (if abrupt then none else (s.homeMet a p zero).walkFrom a g { p with homeDetected := true }) = some (w, legs)) :
    homeChanged a s = (s.homeMet a p zero).walkBegun a { p with homeDetected := true } w legs .homed := by
  rw [homeChanged_met (Axis.active_of_busy (.inl hs) hq hp) hg hd]
  cases abrupt with
  | true => cases hw
  | false =>
    exact applyStop_walks .homed ((homeMet_state ..).trans hs) ((homeMet_queue ..).trans hq) (homeMet_progress ..) hw

/-- The home event ends the HOME at once, and nothing is queued behind it (R88). -/
theorem homeChanged_last (hf : (s.axis a).fits = true) (hj : s.JoinsSound) (hs : (s.axis a).state = .running)
    (hq : (s.axis a).queue = [g]) (hp : (s.axis a).progress = some p)
    (hg : g.work = .home limit rate k negative zero abrupt) (hd : p.homeDetected = false)
    (hw : (if abrupt then none else (s.homeMet a p zero).walkFrom a g { p with homeDetected := true }) = none) :
    homeChanged a s = (s.homeMet a p zero).idleAfter a g { p with homeDetected := true } .homed := by
  have hact := Axis.active_of_busy (.inl hs) hq hp
  obtain ⟨-, hflush, -⟩ := running_fits hf hs hact
  have hs' := (homeMet_state s a p zero).trans hs
  have hq' := (homeMet_queue s a p zero).trans hq
  have hp' := homeMet_progress s a p zero
  have hnoJoin := away_of_not_join hj (Axis.not_waitingOnJoin (x := s.axis a) (.inl (by simp [hs])))
  have hstop : stopSegment a .homed (if abrupt then .abrupt else .ramped) false (s.homeMet a p zero) =
      endSegment a .homed (s.homeMet a p zero) := by
    cases abrupt with
    | true =>
      exact applyStop_ends hp' ((stopEffect_ends false hq' hp' (.inl ⟨hs', rfl⟩)).trans (by rw [Bool.or_false]))
    | false => exact applyStop_no_walk .homed hs' hq' hp' hw
  rw [homeChanged_met hact hg hd, hstop, endSegment_last rfl hq' hp' hflush hnoJoin]

/-- The home event during a walk whose recorded cause is not normal (R75, R76, R88). -/
theorem homeChanged_stopping {c : Cause} (hs : (s.axis a).state = .stopping) (hq : (s.axis a).queue = g :: rest)
    (hp : (s.axis a).progress = some p) (hg : g.work = .home limit rate k negative zero abrupt)
    (hd : p.homeDetected = false) (hr : p.recordedCause = some c) (hc : c.normal = false) (he : c ≠ .estop) :
    if abrupt then (s.homeMet a p zero).EndsHeld a g rest { p with homeDetected := true } c (.next (homeChanged a s))
    else homeChanged a s = s.homeMet a p zero := by
  have hs' := (homeMet_state s a p zero).trans hs
  have hq' := (homeMet_queue s a p zero).trans hq
  have hp' := homeMet_progress s a p zero
  rw [homeChanged_met (Axis.active_of_busy (.inr (.inr hs)) hq hp) hg hd]
  cases abrupt with
  | true =>
    simp only [if_true]
    rw [stopSegment_homed_abrupt hs' hq' hp' hr hc]
    exact endHeld_endsHeld a g rest _ c _ hq' hp' hc he
  | false => exact stopSegment_homed_ramped hs' hq' hp' hr hc

theorem Work.isHome_eq_false {w : Work}
    (h : ∀ limit rate profile negative zero abrupt, w ≠ .home limit rate profile negative zero abrupt) :
    w.isHome = false := by
  cases w with
  | home => exact absurd rfl (h _ _ _ _ _ _)
  | _ => rfl

end

/-- HOME on a busy axis, in the words of the statement (R87, R88). -/
theorem homeChanged_busy (hf : (s.axis a).fits = true) (hj : s.JoinsSound) (hb : (s.axis a).busy = true)
    (hq : (s.axis a).queue = g :: rest) (hp : (s.axis a).progress = some p) :
    let o : Host.Outcome State Fault Refusal := .next (homeChanged a s)
    match g.work with
    | .home _ _ _ _ zeroAtHome abruptAtHome =>
      if p.homeDetected then o = .next s
      else
        let q := { p with homeDetected := true }
        let u := s.homeMet a p zeroAtHome
        if (s.axis a).state = .running then
          match if abruptAtHome then none else u.walkFrom a g q with
          | some (k, legs) => o = .next (u.walkBegun a q k legs .homed)
          | none => rest = [] → o = .next (u.idleAfter a g q .homed)
        else ∀ c, p.recordedCause = some c → c.normal = false → c ≠ .estop →
          if abruptAtHome then u.EndsHeld a g rest q c o else o = .next u
    | _ => o = .next s := by
  intro o
  have hact := Axis.active_of_busy (Axis.busy_iff.1 hb) hq hp
  split
  · next hg =>
    split
    · next hd => exact congrArg Host.Outcome.next (homeChanged_again hact hd)
    · next hd =>
      rw [Bool.not_eq_true] at hd
      intro q u
      split
      · next hs =>
        split
        · next hw => exact congrArg Host.Outcome.next (homeChanged_walks hs hq hp hg hd hw)
        · next hw =>
          rintro rfl
          exact congrArg Host.Outcome.next (homeChanged_last hf hj hs hq hp hg hd hw)
      · next hs =>
        intro c hrec hc he
        have hstopping : (s.axis a).state = .stopping := by
          obtain h | h | h := Axis.busy_iff.1 hb
          · exact absurd h hs
          · simpa [hg, Work.motion] using (waiting_fits_motion hf h hact).1
          · exact h
        have hmet := homeChanged_stopping hstopping hq hp hg hd hrec hc he
        split
        · next habrupt => exact (if_pos habrupt).mp hmet
        · next habrupt => exact congrArg Host.Outcome.next ((if_neg habrupt).mp hmet)
  · next hg => exact congrArg Host.Outcome.next (homeChanged_other hact (Work.isHome_eq_false hg))

/-! ### General inputs (R94) -/

/-- The axis whose WAIT_INPUT has come about (R94). -/
theorem generalAtAxis_waiting {i : Fin 4} {level : Bool} {timeout : Nat} (hf : (s.axis a).fits = true) (hj : s.JoinsSound)
    (hs : (s.axis a).state = .waiting) (hq : (s.axis a).queue = [g]) (hp : (s.axis a).progress = some p)
    (hg : g.work = .waitInput i level timeout) : generalAtAxis i level a s = s.idleAfter a g p .complete := by
  have hact := Axis.active_of_busy (.inr (.inl hs)) hq hp
  have hflush := (waiting_fits hf hs hact).2
  have hnoJoin : (s.axis a).waitingOnJoin = false := by
    simp [Axis.waitingOnJoin, hact, hg, Work.kind]
  have hend : generalAtAxis i level a s = endSegment a .complete s := by
    simp [generalAtAxis, hact, hg, hs]
  rw [hend, endSegment_last rfl hq hp hflush (away_of_not_join hj hnoJoin)]

/-- An input that no axis waits for has the report queue as its one receiver, if its flag is set (R139). -/
theorem generalReceivers_of_unawaited {i : Fin 4} {level : Bool} (h : ∀ a, (s.axis a).waitsFor i level = false) :
    generalReceivers i level s = if s.inputs.reportOnChange.getLsbD i.val then [.queue] else [] := by
  have hnone : (axisIds.filter fun a => (s.axis a).waitsFor i level) = [] :=
    List.filter_eq_nil_iff.2 fun a _ => by simp [h a]
  rw [generalReceivers, hnone]
  rfl

/-- An input that one axis waits for (R94, R139). -/
theorem generalReceivers_of_awaited {i : Fin 4} {level : Bool} (ha : (s.axis a).waitsFor i level = true)
    (h : ∀ b, b ≠ a → (s.axis b).waitsFor i level = false) :
    generalReceivers i level s = .engine a :: if s.inputs.reportOnChange.getLsbD i.val then [.queue] else [] := by
  have hone : (axisIds.filter fun b => (s.axis b).waitsFor i level) = [a] := by
    have hself : ∀ a : AxisId, axisIds.filter (fun b => b == a) = [a] := by decide
    rw [← hself a]
    refine List.filter_congr fun b _ => ?_
    by_cases e : b = a
    · rw [e, ha, beq_self_eq_true]
    · rw [h b e, beq_eq_false_iff_ne.2 e]
  rw [generalReceivers, hone]
  rfl

theorem waitsFor_of_waiting {i : Fin 4} {level : Bool} {timeout : Nat} (hs : (s.axis a).state = .waiting)
    (hq : (s.axis a).queue = [g]) (hp : (s.axis a).progress = some p) (hg : g.work = .waitInput i level timeout) :
    (s.axis a).waitsFor i level = true := by
  simp [Axis.waitsFor, Axis.active_of_busy (.inr (.inl hs)) hq hp, hg, hs]

/-! ### The statement, input by input -/

/-- The state in which the change of a due input is handed on (R135). -/
def State.accepting (s : State) (i : InputId) (level : Bool) : State :=
  s.setInput i { s.input i with accepted := level, pending := none }

theorem execFilterAcceptance_eq {i : InputId} {level : Bool} (hr : s.resetHeld = none)
    (hd : (s.input i).pending = some s.uptime) (hl : (s.input i).raw = level) :
    exec (.filterAcceptance i) s = .next (handOn i level (s.accepting i level)) := by
  rw [execFilterAcceptance_due hr hd, acceptRaw, hl]
  rfl

theorem execFilterAcceptance_early {i : InputId} (hr : s.resetHeld = none) (hd : (s.input i).pending ≠ some s.uptime) :
    exec (.filterAcceptance i) s = .next s := by
  refine congrArg Host.Outcome.next ((exec_running hr).trans (if_neg ?_))
  simpa [State.due] using hd

/-- An axis input that does not act: it becomes inactive, or its axis is DISABLED, or not busy and the input is not ALARM
(R78 to R81, R87). -/
theorem handOn_axis_quiet {l : AxisLine} {level : Bool}
    (h : level = false ∨ (s.axis a).state = .disabled ∨ (s.axis a).busy = false ∧ l ≠ .alarm) :
    handOn (.axis a l) level s = s := by
  obtain rfl | h := h
  · rfl
  · have hact : (s.axis a).active = none := Axis.active_eq_none (by
      obtain hs | ⟨hb, -⟩ := h
      · simp [Axis.busy, hs]
      · exact hb)
    cases level with
    | false => rfl
    | true =>
      cases l with
      | limp | limn => simp only [handOn, limitChanged, hact, if_true]
      | slow => simp only [handOn, slowChanged, hact, if_true]
      | home => simp only [handOn, homeChanged, hact, if_true]
      | alarm =>
        have hs : (s.axis a).state = .disabled := h.resolve_right fun hn => hn.2 rfl
        simp only [handOn, alarmChanged, hs, if_true]

/-- ALARM on an axis at rest (R81). -/
theorem alarmChanged_rest (hs : (s.axis a).state = .idle ∨ (s.axis a).state = .held) :
    alarmChanged a s = hold a (.stopped .driverAlarm) s := by
  obtain hs | hs := hs <;> simp only [alarmChanged, hs]

theorem handOn_general (i : Fin 4) (level : Bool) (s : State) : handOn (.general i) level s =
    generalInOrder i level (drawOrder (generalReceivers i level s) s).1 (drawOrder (generalReceivers i level s) s).2 := rfl

theorem handOn_general_unawaited {i : Fin 4} {level : Bool} (h : ∀ a, (s.axis a).waitsFor i level = false) :
    handOn (.general i) level s =
      if s.inputs.reportOnChange.getLsbD i.val then admitReport (.inputChanged i level) s else s := by
  rw [handOn_general, generalReceivers_of_unawaited h]
  split <;> rfl

/-- A general input that one axis waits for, without a report. -/
theorem handOn_general_silent {i : Fin 4} {level : Bool} (hr : s.inputs.reportOnChange.getLsbD i.val = false)
    (ha : (s.axis a).waitsFor i level = true) (h : ∀ b, b ≠ a → (s.axis b).waitsFor i level = false) :
    handOn (.general i) level s = generalAtAxis i level a s := by
  rw [handOn_general, generalReceivers_of_awaited ha h, hr]
  rfl

/-- A general input that one axis waits for, with a report: the two in either order (notes/assumptions/6.md). -/
theorem handOn_general_reported {i : Fin 4} {level : Bool} (hr : s.inputs.reportOnChange.getLsbD i.val = true)
    (ha : (s.axis a).waitsFor i level = true) (h : ∀ b, b ≠ a → (s.axis b).waitsFor i level = false) :
    ∃ n, handOn (.general i) level s =
        generalAtAxis i level a (admitReport (.inputChanged i level) { s with freeCount := n }) ∨
      handOn (.general i) level s =
        admitReport (.inputChanged i level) (generalAtAxis i level a { s with freeCount := n }) := by
  obtain ⟨hp, n, e⟩ := drawOrder_spec (generalReceivers i level s) s
  refine ⟨n, ?_⟩
  rw [handOn_general, e]
  rw [generalReceivers_of_awaited ha h, if_pos hr] at hp ⊢
  obtain ho | ho := List.perm_pair.1 hp
  · rw [ho]
    exact .inr rfl
  · rw [ho]
    exact .inl rfl

/-- Settles O46, input by input. -/
theorem acceptedLevelsAreHandedOn : Obligations.AcceptedLevelsAreHandedOn := by
  intro s hr
  refine ⟨fun i hd => execFilterAcceptance_early hr hd, fun a l hd h => ?_, fun a hd hl hs => ?_, fun i hd h => ?_,
    fun hd hl => ?_, fun a l g rest p hf hj hd hl hb hq hp => ?_, fun i a g p timeout hf hj hd hs hq hp hg h => ?_⟩
  · rw [execFilterAcceptance_eq hr hd rfl]
    exact congrArg Host.Outcome.next (handOn_axis_quiet h)
  · rw [execFilterAcceptance_eq hr hd hl]
    exact congrArg Host.Outcome.next (alarmChanged_rest (s := s.accepting (.axis a .alarm) true) hs)
  · rw [execFilterAcceptance_eq hr hd rfl]
    exact congrArg Host.Outcome.next (handOn_general_unawaited (s := s.accepting (.general i) _) h)
  · rw [execFilterAcceptance_eq hr hd hl]
    rfl
  · rw [execFilterAcceptance_eq hr hd hl]
    cases l with
    | limp => exact limitChanged_busy (s := s.accepting (.axis a .limp) true) .positive (hf a) hb hq hp
    | limn => exact limitChanged_busy (s := s.accepting (.axis a .limn) true) .negative (hf a) hb hq hp
    | alarm => exact alarmChanged_busy (s := s.accepting (.axis a .alarm) true) hb hq hp
    | slow =>
      have hslow : (s.accepting (.axis a .slow) true).accepted (.axis a .slow) = true := by
        rw [State.accepted, State.accepting, State.input_setInput_self]
      exact slowChanged_busy (s := s.accepting (.axis a .slow) true) (hf a) hj hb hq hp hslow
    | home => exact homeChanged_busy (s := s.accepting (.axis a .home) true) (hf a) hj hb hq hp
  · have hwaits := waitsFor_of_waiting hs hq hp hg
    rw [execFilterAcceptance_eq hr hd rfl]
    intro t o change
    split
    · next hreport =>
      obtain ⟨n, hn⟩ := handOn_general_reported (s := s.accepting (.general i) _) hreport hwaits h
      refine ⟨n, hn.imp (fun e => ?_) fun e => ?_⟩
      · exact congrArg Host.Outcome.next (e.trans (generalAtAxis_waiting (hf a) hj hs hq hp hg))
      · exact congrArg Host.Outcome.next (e.trans (congrArg change (generalAtAxis_waiting (hf a) hj hs hq hp hg)))
    · next hreport =>
      rw [Bool.not_eq_true] at hreport
      exact congrArg Host.Outcome.next
        ((handOn_general_silent (s := s.accepting (.general i) _) hreport hwaits h).trans
          (generalAtAxis_waiting (hf a) hj hs hq hp hg))

end Sys2Proof.Machine
end
